-- ==== Sys2Proof/Word.lean ====
section
/-! DEFINITION. The two word types of the block (spec/00_scope.md R9). -/

namespace Sys2Proof

/-- A byte: an unsigned 8-bit value (R9). -/
abbrev Byte := BitVec 8

/-- A u16: an unsigned 16-bit value (R9). -/
abbrev U16 := BitVec 16

end Sys2Proof
end

