-- ==== Sys2Proof/Machine/Bytes.lean ====
section
/-! DEFINITION. Byte order and bit fields (spec/00_scope.md R9, spec/20_memory.md R40). -/

namespace Sys2Proof.Machine

/-- `hi8(v) = v[15:8]` (R9). -/
def hi8 (v : U16) : Byte := v.extractLsb' 8 8

/-- `lo8(v) = v[7:0]` (R9). -/
def lo8 (v : U16) : Byte := v.extractLsb' 0 8

/-- `be16(a, b) = a * 256 + b` (R9): the first byte is the most significant (R40). -/
def be16 (a b : Byte) : U16 := a ++ b

/-- The 32-bit big-endian word of a pair's four bytes (spec/30_encoding.md R65). -/
def pairWord (p0 p1 p2 p3 : Byte) : BitVec 32 := be16 p0 p1 ++ be16 p2 p3

end Sys2Proof.Machine
end

