-- ==== Sys2Proof/Machine/Constants.lean ====
section
/-! DEFINITION. The fixed constants of spec/00_scope.md R6, each defined once. -/

namespace Sys2Proof.Machine

/-- CMDSET: the defined command codes. -/
def cmdSet : List Byte := [0, 1, 2, 3]

/-- HDR_LEN: bytes before the payload. -/
def hdrLen : Nat := 5

/-- CKS_LEN: checksum bytes. -/
def cksLen : Nat := 2

/-- MIN_FRAME: the shortest frame, HDR_LEN + CKS_LEN. -/
def minFrame : Nat := hdrLen + cksLen

/-- LEN_MAX: the largest payload length the synchronizer accepts. -/
def lenMax : Nat := 50

/-- BUF_CAP: the buffer length above which an unsuccessful scan discards. -/
def bufCap : Nat := 256

/-- BUF_DROP: how many of the oldest bytes it discards. -/
def bufDrop : Nat := 128

/-- ACK: the acknowledge byte. -/
def ackByte : Byte := 0x01

/-- SENTINEL: the "unsupported / not covered / unset" status value. -/
def sentinel : U16 := 0xFFFF

/-- SP_MIN: the lowest setpoint, tenths of a degree. -/
def spMin : Nat := 160

/-- SP_MIN_COOL: the lowest setpoint in Cool mode. -/
def spMinCool : Nat := 180

/-- SP_MAX: the highest setpoint. -/
def spMax : Nat := 300

/-- RT_OFFSET: room register = hundredths of a degree + RT_OFFSET. -/
def rtOffset : Int := 5000

/-- RT_MIN: the lowest accepted room temperature, hundredths of a degree. -/
def rtMin : Int := -5000

/-- RT_MAX: the highest accepted room temperature, hundredths of a degree. -/
def rtMax : Int := 8000

/-- NVANE: vane slots per axis, the bound of every vane index and the length of every per-vane table. -/
abbrev nVane : Nat := 4

end Sys2Proof.Machine
end

