-- ==== Sys2Proof/Machine/Checksum.lean ====
section
/-! DEFINITION. The checksum validator: CKS, VERIFY and SEAL (spec/40_checksum.md). -/

namespace Sys2Proof.Machine

/-- The sum of the bytes as an unbounded integer (R81). -/
def byteSum : List Byte → Nat
  | [] => 0
  | b :: t => b.toNat + byteSum t

/-- `CKS(s)` (R81): the byte sum modulo 2^16, complemented bit by bit. -/
def cks (s : List Byte) : U16 := BitVec.ofNat 16 (byteSum s) ^^^ 0xFFFF

/-- One step of the serial validator (R82): the byte is added to ACC modulo 2^16. -/
def accAdd (acc : U16) (b : Byte) : U16 := acc + b.setWidth 16

/-- The serial form of CKS (R82): ACC starts at 0 and is complemented at the end. -/
def cksSerial (s : List Byte) : U16 := s.foldl accAdd 0 ^^^ 0xFFFF

/-- `expected = 5 + length + 2` (spec/41_frame_sync.md R98), on unbounded integers. -/
def expectedLen (n : Byte) : Nat := hdrLen + n.toNat + cksLen

/-- `VERIFY(f)` (R84). Bytes beyond the declared frame are ignored (R85). -/
def verify (f : List Byte) : Bool :=
  if f.length < minFrame then false
  else
    let n := f.getD 4 0
    if f.length < expectedLen n then false
    else cks (f.take (hdrLen + n.toNat)) == be16 (f.getD (hdrLen + n.toNat) 0) (f.getD (hdrLen + n.toNat + 1) 0)

/-- `SEAL(h)` (R89): the checksum of what precedes it, high byte first. -/
def sealFrame (h : List Byte) : List Byte := h ++ [hi8 (cks h), lo8 (cks h)]

end Sys2Proof.Machine
end

