-- ==== Sys2Proof/Config.lean ====
section
/-! DEFINITION. The named things of the block (models, modes, fan speeds, the snapshot) and the open parameters of
spec/00_scope.md R7 as one structure of plain data. The checks on it (R8) and its default are in Machine/Profile.lean. -/

namespace Sys2Proof

/-- The active model id (spec/10_state.md R19): 1 Office, 2 Horizontal, 3 VRF. -/
inductive Model
  | office
  | horizontal
  | vrf
deriving DecidableEq, Repr

/-- The operating modes of the snapshot (spec/10_state.md R22). -/
inductive HvacMode
  | auto
  | cool
  | dry
  | fan
  | heat
deriving DecidableEq, Repr

/-- The fan speeds of the snapshot (spec/10_state.md R22). -/
inductive FanSpeed
  | auto
  | quiet
  | low
  | medium
  | high
deriving DecidableEq, Repr

/-- The DeviceSnapshot (spec/10_state.md R22): the setpoint in tenths of a degree, the room temperature in
hundredths. -/
structure Snapshot where
  power : Bool
  mode : HvacMode
  setpoint : Nat
  fan : FanSpeed
  swing : Bool
  room : Int
  model : Model
deriving DecidableEq, Repr

/-- A vane index, 0 to NVANE - 1 (spec/10_state.md R18, spec/00_scope.md R6). -/
abbrev Vane := Fin Machine.nVane

/-- The two vane axes (spec/10_state.md R18). -/
inductive Axis
  | vertical
  | horizontal
deriving DecidableEq, Repr

/-- What a per-vane register holds (spec/10_state.md R18). -/
inductive VaneKind
  | position
  | swing
deriving DecidableEq, Repr

/-- One thing per vane index. -/
abbrev PerVane (α : Type) := Vector α Machine.nVane

/-- One thing per model. -/
structure PerModel (α : Type) where
  office : α
  horizontal : α
  vrf : α
deriving DecidableEq, Repr

/-- The four bytes of a CMD0 or CMD1 echo body (spec/30_encoding.md R70). -/
structure EchoBody where
  e0 : Byte
  e1 : Byte
  s0 : Byte
  s1 : Byte
deriving DecidableEq, Repr

/-- The grain of the protocol agent's atomic sections (spec/20_memory.md R49). -/
inductive AtomicUnit
  | pair
  | frame
deriving DecidableEq, Repr

/-- 16-bit cells by id: strictly rising ids, no entry holding 0; an id that is not listed reads as 0. -/
abbrev Cells := List (Nat × U16)

/-- The open parameters of spec/00_scope.md R7. A parameter that is a function is given by a finite table: every such
function has a finite domain (bytes, object ids, payloads of at most 50 bytes), so every one has such a table. DESIGN
CHOICE (notes/assumptions/1.md). The duration TIMEOUT is read by no rule and has no field (notes/assumptions/16.md). -/
structure Config where
  /-- HS0: payload to the echo body; a payload that is not listed gives none. -/
  hs0 : List (List Byte × EchoBody)
  /-- HS1: payload to the echo body; a payload that is not listed gives none. -/
  hs1 : List (List Byte × EchoBody)
  /-- PROTO_INFO: number to value; a number that is not listed gives none. -/
  protoInfo : List (Byte × U16)
  /-- CAPCONST: model and number to value; a point that is not listed gives none. -/
  capConst : List ((Model × Byte) × U16)
  /-- SYSTYPE. -/
  sysType : PerModel U16
  /-- VSTEPS. -/
  vSteps : PerModel U16
  /-- HSTEPS. -/
  hSteps : PerModel U16
  /-- VSWING_OK. -/
  vSwingOk : PerModel Bool
  /-- HSWING_OK. -/
  hSwingOk : PerModel Bool
  /-- HSUP_VRF. -/
  hsupVrf : PerVane Bool
  /-- REG_RESET by object id; an id that is not listed resets to 0. -/
  regReset : Cells
  /-- SNAP_SEED. -/
  snapSeed : Snapshot
  /-- MODEL_AT_RESET, as the persistence collaborator supplies it (R8 wants it in 1 to 3). -/
  modelAtReset : Nat
  /-- EXTRA_OBJ, in rising order. -/
  extraObj : List U16
  /-- CMD3_L_BIAS, 0 or 2. -/
  cmd3LBias : Nat
  /-- ATOMIC_UNIT. -/
  atomicUnit : AtomicUnit
  /-- CHUNK_MAX; none is unbounded. -/
  chunkMax : Option Nat
deriving DecidableEq, Repr

end Sys2Proof
end

