-- ==== Sys2Proof/Machine/Objects.lean ====
section
/-! DEFINITION. The object registers: their ids (spec/10_state.md R17, R18), the register bank, and reading and writing
one register. -/

namespace Sys2Proof.Machine

/-- The six groups of per-vane registers (R18). -/
inductive VaneGroup
  | vdir
  | vswg
  | xvpos
  | xvswg
  | xhpos
  | xhswg
deriving DecidableEq, Repr

/-- The register names: the 12 plain registers of R17, the 24 per-vane registers of R18, and the registers of
EXTRA_OBJ by their id. -/
inductive Obj
  | onoff
  | mode
  | setpt
  | fan
  | vdirG
  | vswgG
  | hdirG
  | hswgG
  | err0
  | err1
  | roomt
  | econ
  | vane (g : VaneGroup) (v : Vane)
  | extra (id : U16)
deriving DecidableEq, Repr

/-- REG: every register is its own 16-bit cell, with no alias (R17). -/
structure Bank where
  onoff : U16
  mode : U16
  setpt : U16
  fan : U16
  vdirG : U16
  vswgG : U16
  hdirG : U16
  hswgG : U16
  err0 : U16
  err1 : U16
  roomt : U16
  econ : U16
  vdir : PerVane U16
  vswg : PerVane U16
  xvpos : PerVane U16
  xvswg : PerVane U16
  xhpos : PerVane U16
  xhswg : PerVane U16
  /-- The registers of EXTRA_OBJ. -/
  extra : Cells
deriving DecidableEq, Repr

/-- The vane indices in order. -/
def vanes : List Vane := List.finRange nVane

/-- A vane's index as a number. -/
def vaneIndex (v : Vane) : Nat := v.val

/-- The vane of an index; an index of NVANE or more has none. -/
def vaneOfIndex (n : Nat) : Option Vane := if h : n < nVane then some ⟨n, h⟩ else none

/-- The entry of a vane. -/
def vaneGet {α : Type} (q : PerVane α) (v : Vane) : α := q[v]

/-- The table with one vane's entry replaced. -/
def vaneSet {α : Type} (q : PerVane α) (v : Vane) (x : α) : PerVane α := q.set v x

/-- The value of a cell; a cell that is not listed holds 0. -/
def cellsRead : Cells → Nat → U16
  | [], _ => 0
  | (k, w) :: t, a => if k = a then w else cellsRead t a

/-- Write one cell, keeping the canonical form: a cell that becomes 0 is not listed. -/
def cellsWrite : Cells → Nat → U16 → Cells
  | [], a, v => if v = 0 then [] else [(a, v)]
  | (k, w) :: t, a, v =>
    if k = a then (if v = 0 then cellsWrite t a 0 else (a, v) :: t)
    else if a < k ∧ v ≠ 0 then (a, v) :: (k, w) :: t
    else (k, w) :: cellsWrite t a v

/-- The cells from a lower bound on are strictly rising and none holds 0. -/
def cellsWfFrom : Nat → Cells → Bool
  | _, [] => true
  | lo, (k, w) :: t => lo ≤ k && w != 0 && cellsWfFrom (k + 1) t

/-- The canonical form of cells: strictly rising ids, no cell holding 0. -/
def cellsWf (c : Cells) : Bool := cellsWfFrom 0 c

/-- `axis(a)` of a per-vane register (R18). -/
def VaneGroup.axis : VaneGroup → Axis
  | .vdir => .vertical
  | .vswg => .vertical
  | .xvpos => .vertical
  | .xvswg => .vertical
  | .xhpos => .horizontal
  | .xhswg => .horizontal

/-- `kind(a)` of a per-vane register (R18). -/
def VaneGroup.kind : VaneGroup → VaneKind
  | .vdir => .position
  | .vswg => .swing
  | .xvpos => .position
  | .xvswg => .swing
  | .xhpos => .position
  | .xhswg => .swing

/-- The id of a per-vane register (R18): `0x1012..0x1019` interleave direction and swing, the other groups are runs. -/
def vaneIdNat (g : VaneGroup) (v : Vane) : Nat :=
  match g with
  | .vdir => 0x1012 + 2 * vaneIndex v
  | .vswg => 0x1013 + 2 * vaneIndex v
  | .xvpos => 0x0132 + vaneIndex v
  | .xvswg => 0x103A + vaneIndex v
  | .xhpos => 0x0144 + vaneIndex v
  | .xhswg => 0x0148 + vaneIndex v

/-- The object id of a register (R17, R18). -/
def objId : Obj → U16
  | .onoff => 0x1000
  | .mode => 0x1001
  | .setpt => 0x1002
  | .fan => 0x1003
  | .vdirG => 0x1010
  | .vswgG => 0x1011
  | .hdirG => 0x1022
  | .hswgG => 0x1023
  | .err0 => 0x1030
  | .err1 => 0x1031
  | .roomt => 0x1033
  | .econ => 0x1100
  | .vane g v => BitVec.ofNat 16 (vaneIdNat g v)
  | .extra id => id

/-- The 12 plain registers (R17). -/
def plainRegistry : List Obj :=
  [.onoff, .mode, .setpt, .fan, .vdirG, .vswgG, .hdirG, .hswgG, .err0, .err1, .roomt, .econ]

/-- The registers of a group. -/
def groupRegistry (g : VaneGroup) : List Obj := vanes.map (Obj.vane g)

/-- The 24 per-vane registers (R18). -/
def vaneRegistry : List Obj :=
  groupRegistry .vdir ++ groupRegistry .vswg ++ groupRegistry .xvpos ++ groupRegistry .xvswg ++ groupRegistry .xhpos ++
    groupRegistry .xhswg

/-- The 36 registers of the registry (R17, R18). -/
def registry : List Obj := plainRegistry ++ vaneRegistry

/-- The 36 object ids of the registry. -/
def registryIds : List U16 := registry.map objId

/-- The register of the registry with an id. -/
def registryFind (id : U16) : Option Obj := registry.find? (fun o => objId o == id)

/-- The register with an id: OBJ is the registry and EXTRA_OBJ (R17); an id outside OBJ is a hole. -/
def objFind (extra : List U16) (id : U16) : Option Obj :=
  match registryFind id with
  | some o => some o
  | none => if id ∈ extra then some (.extra id) else none

/-- The registers of a group, in a bank. -/
def bankGroup (b : Bank) : VaneGroup → PerVane U16
  | .vdir => b.vdir
  | .vswg => b.vswg
  | .xvpos => b.xvpos
  | .xvswg => b.xvswg
  | .xhpos => b.xhpos
  | .xhswg => b.xhswg

/-- The bank with a group replaced. -/
def bankSetGroup (b : Bank) (g : VaneGroup) (q : PerVane U16) : Bank :=
  match g with
  | .vdir => { b with vdir := q }
  | .vswg => { b with vswg := q }
  | .xvpos => { b with xvpos := q }
  | .xvswg => { b with xvswg := q }
  | .xhpos => { b with xhpos := q }
  | .xhswg => { b with xhswg := q }

/-- `REG[a]` (spec/00_scope.md R11). -/
def bankRead (b : Bank) : Obj → U16
  | .onoff => b.onoff
  | .mode => b.mode
  | .setpt => b.setpt
  | .fan => b.fan
  | .vdirG => b.vdirG
  | .vswgG => b.vswgG
  | .hdirG => b.hdirG
  | .hswgG => b.hswgG
  | .err0 => b.err0
  | .err1 => b.err1
  | .roomt => b.roomt
  | .econ => b.econ
  | .vane g v => vaneGet (bankGroup b g) v
  | .extra id => cellsRead b.extra id.toNat

/-- `REG[a] <- v` (spec/00_scope.md R11): the whole 16-bit register. -/
def bankWrite (b : Bank) (o : Obj) (x : U16) : Bank :=
  match o with
  | .onoff => { b with onoff := x }
  | .mode => { b with mode := x }
  | .setpt => { b with setpt := x }
  | .fan => { b with fan := x }
  | .vdirG => { b with vdirG := x }
  | .vswgG => { b with vswgG := x }
  | .hdirG => { b with hdirG := x }
  | .hswgG => { b with hswgG := x }
  | .err0 => { b with err0 := x }
  | .err1 => { b with err1 := x }
  | .roomt => { b with roomt := x }
  | .econ => { b with econ := x }
  | .vane g v => bankSetGroup b g (vaneSet (bankGroup b g) v x)
  | .extra id => { b with extra := cellsWrite b.extra id.toNat x }

/-- Write one value into each of a list of registers. -/
def bankWriteAll (b : Bank) (os : List Obj) (x : U16) : Bank := os.foldl (fun b o => bankWrite b o x) b

/-- The registers after RESET: `REG[a] = REG_RESET(a)` for every `a` in OBJ (spec/10_state.md R28). -/
def resetBank (c : Config) : Bank :=
  let r (o : Obj) : U16 := cellsRead c.regReset (objId o).toNat
  let q (g : VaneGroup) : PerVane U16 := Vector.ofFn (fun v => r (.vane g v))
  let core : Bank :=
    { onoff := r .onoff, mode := r .mode, setpt := r .setpt, fan := r .fan, vdirG := r .vdirG, vswgG := r .vswgG
      hdirG := r .hdirG, hswgG := r .hswgG, err0 := r .err0, err1 := r .err1, roomt := r .roomt, econ := r .econ
      vdir := q .vdir, vswg := q .vswg, xvpos := q .xvpos, xvswg := q .xvswg, xhpos := q .xhpos, xhswg := q .xhswg
      extra := [] }
  c.extraObj.foldl (fun b id => bankWrite b (.extra id) (r (.extra id))) core

/-- SWINGSET (R23): the 14 registers whose non-zero value makes SNAP.swing true. -/
def swingSet : List Obj :=
  [.vswgG, .hswgG] ++ groupRegistry .vswg ++ groupRegistry .xvswg ++ groupRegistry .xhswg

end Sys2Proof.Machine
end

