-- ==== Sys2Proof/Machine/Profile.lean ====
section
/-! DEFINITION. The model profiles and the capability parameters (spec/44_capability.md R161 to R168), the
well-formedness of a configuration (spec/00_scope.md R8) and the default configuration of State.reset. -/

namespace Sys2Proof.Machine

/-- The model of an id 1 to 3 (spec/10_state.md R19). -/
def modelOfId (n : Nat) : Option Model :=
  match n with
  | 1 => some .office
  | 2 => some .horizontal
  | 3 => some .vrf
  | _ => none

/-- The id of a model (spec/10_state.md R19). -/
def modelId : Model → Nat
  | .office => 1
  | .horizontal => 2
  | .vrf => 3

/-- A model's entry. -/
def perModel {α : Type} (p : PerModel α) : Model → α
  | .office => p.office
  | .horizontal => p.horizontal
  | .vrf => p.vrf

/-- `VSUP(m, v)` (spec/10_state.md R21): Office and Horizontal vane 0 only, VRF all four. -/
def vsup : Model → Vane → Bool
  | .office, v => v == 0
  | .horizontal, v => v == 0
  | .vrf, _ => true

/-- `HSUP(m, v)` (spec/10_state.md R21): Office none, Horizontal vane 0 only, VRF as HSUP_VRF says. -/
def hsup (c : Config) : Model → Vane → Bool
  | .office, _ => false
  | .horizontal, v => v == 0
  | .vrf, v => vaneGet c.hsupVrf v

/-- `SUP(m, axis, v)` (spec/10_state.md R21). -/
def sup (c : Config) (m : Model) (x : Axis) (v : Vane) : Bool :=
  match x with
  | .vertical => vsup m v
  | .horizontal => hsup c m v

/-- `STEPS(m, axis)` (spec/10_state.md R21). -/
def steps (c : Config) (m : Model) (x : Axis) : U16 :=
  match x with
  | .vertical => perModel c.vSteps m
  | .horizontal => perModel c.hSteps m

/-- The static capability fields (spec/10_state.md R20). -/
structure Caps where
  sysType : U16
  vSteps : U16
  vSwingOk : Bool
  hSteps : U16
  hSwingOk : Bool
  vSup : PerVane Bool
  hSup : PerVane Bool
deriving DecidableEq, Repr

/-- The profile of a model: the static capability fields (spec/10_state.md R20, spec/44_capability.md R162). -/
def profile (c : Config) (m : Model) : Caps :=
  { sysType := perModel c.sysType m
    vSteps := perModel c.vSteps m
    vSwingOk := perModel c.vSwingOk m
    hSteps := perModel c.hSteps m
    hSwingOk := perModel c.hSwingOk m
    vSup := Vector.ofFn (vsup m)
    hSup := Vector.ofFn (hsup c m) }

/-- `HS0(P)` (spec/00_scope.md R7). -/
def hs0 (c : Config) (p : List Byte) : Option EchoBody := c.hs0.lookup p

/-- `HS1(P)` (spec/00_scope.md R7). -/
def hs1 (c : Config) (p : List Byte) : Option EchoBody := c.hs1.lookup p

/-- `PROTO_INFO(nu)` (spec/44_capability.md R166). -/
def protoInfo (c : Config) (nu : Byte) : Option U16 := c.protoInfo.lookup nu

/-- `CAPCONST(m, nu)` (spec/44_capability.md R167). -/
def capConst (c : Config) (m : Model) (nu : Byte) : Option U16 := c.capConst.lookup (m, nu)

/-- The per-vane numbers of class 0x01 (spec/44_capability.md R169). -/
def capVaneNumbers : List Byte := [0x32, 0x33, 0x34, 0x35, 0x44, 0x45, 0x46, 0x47, 0x48, 0x49, 0x4A, 0x4B]

/-- The ids are strictly rising: the form in which a set of ids is given. -/
def risingIds : List U16 → Bool
  | [] => true
  | [_] => true
  | a :: b :: t => a.toNat < b.toNat && risingIds (b :: t)

/-- The fixed constants fit each other (spec/00_scope.md R8). -/
def constantsOk : Bool := lenMax + minFrame ≤ bufCap && bufDrop ≤ bufCap && lenMax ≤ 255

/-- A step count is at least 1 wherever a vane of that axis is supported (spec/00_scope.md R7). -/
def stepsOk (c : Config) (m : Model) : Bool :=
  vanes.all (fun v => (!vsup m v || 1 ≤ (perModel c.vSteps m).toNat) && (!hsup c m v || 1 ≤ (perModel c.hSteps m).toNat))

/-- CAPCONST has the two fixed points and is undefined on the per-vane numbers (spec/00_scope.md R7). -/
def capConstOk (c : Config) : Bool :=
  capConst c .vrf 0x01 == some 0x0004 && capConst c .office 0x01 == some 0x0000 &&
    c.capConst.all (fun e => !capVaneNumbers.contains e.1.2)

/-- The fields of a snapshot are within their types (spec/10_state.md R22). -/
def snapshotOk (s : Snapshot) : Bool :=
  spMin ≤ s.setpoint && s.setpoint ≤ spMax && decide (rtMin ≤ s.room) && decide (s.room ≤ rtMax)

/-- EXTRA_OBJ is a set of ids disjoint from the registry (spec/00_scope.md R7). -/
def extraObjOk (c : Config) : Bool := risingIds c.extraObj && c.extraObj.all (fun id => !registryIds.contains id)

/-- CHUNK_MAX is positive or unbounded (spec/00_scope.md R7). -/
def chunkMaxOk (c : Config) : Bool :=
  match c.chunkMax with
  | none => true
  | some n => 1 ≤ n

/-- A configuration is well formed (spec/00_scope.md R8). -/
def configWf (c : Config) : Bool :=
  constantsOk && stepsOk c .office && stepsOk c .horizontal && stepsOk c .vrf && capConstOk c && snapshotOk c.snapSeed &&
    (modelOfId c.modelAtReset).isSome && extraObjOk c && (c.cmd3LBias == 0 || c.cmd3LBias == 2) && chunkMaxOk c

/-- MODEL_AT_RESET as a model. A configuration that gives none is ill formed (spec/10_state.md R28), and no step runs
under it. -/
def modelAtReset (c : Config) : Model := (modelOfId c.modelAtReset).getD .office

/-- The configuration of State.reset: the defaults of spec/00_scope.md R7 and, where R7 says "given per vector" or "not
used by vectors", the values of notes/assumptions/2.md, 3.md and 4.md. DESIGN CHOICE, unsafe; every statement holds for
every configuration. -/
def standardConfig : Config :=
  { hs0 := []
    hs1 := []
    protoInfo := []
    capConst := [((.vrf, 0x01), 0x0004), ((.office, 0x01), 0x0000)]
    sysType := { office := 0, horizontal := 0, vrf := 0 }
    vSteps := { office := 4, horizontal := 4, vrf := 4 }
    hSteps := { office := 5, horizontal := 5, vrf := 5 }
    vSwingOk := { office := false, horizontal := false, vrf := false }
    hSwingOk := { office := false, horizontal := false, vrf := false }
    hsupVrf := Vector.replicate nVane true
    regReset := [(0x1002, 0x00F0), (0x1033, 0x1C84)]
    snapSeed := { power := false, mode := .auto, setpoint := 240, fan := .auto, swing := false, room := 2300, model := .vrf }
    modelAtReset := 3
    extraObj := []
    cmd3LBias := 0
    atomicUnit := .pair
    chunkMax := none }

end Sys2Proof.Machine
end

