-- ==== Sys2Proof/Syntax.lean ====
section
/-! DEFINITION. The instructions: one constructor for each row of spec/opcode_table.json, in the table's order and its
four formats FRAME_HDR, PAIR, CLSNUM and HOST (spec/30_encoding.md R80). -/

namespace Sys2Proof

/-- The three address bytes of a frame, offset 1 first: opaque to the block (spec/30_encoding.md R60). -/
structure Addr where
  a1 : Byte
  a2 : Byte
  a3 : Byte
deriving DecidableEq, Repr

/-- One constructor per row of spec/opcode_table.json. A frame carries its address and payload; a pair its value; a
class/number point what its row leaves free; a host operation word its `idx` and `arg`, also where the operation
ignores them. -/
inductive Instr
  /-- `CMD0`: start handshake (R119). -/
  | cmd0 (addr : Addr) (payload : List Byte)
  /-- `CMD1`: equipment info (R120). -/
  | cmd1 (addr : Addr) (payload : List Byte)
  /-- `CMD2`: object write (R121). -/
  | cmd2 (addr : Addr) (payload : List Byte)
  /-- `CMD3.OBJ`: status query, object mode (R124). -/
  | cmd3Obj (addr : Addr) (payload : List Byte)
  /-- `CMD3.CLS`: equipment confirmation, class/number mode (R126). -/
  | cmd3Cls (addr : Addr) (payload : List Byte)
  /-- `WR.ONOFF`: R137. -/
  | wrOnoff (val : U16)
  /-- `WR.MODE`: R138. -/
  | wrMode (val : U16)
  /-- `WR.SETPT`: R139. -/
  | wrSetpt (val : U16)
  /-- `WR.FAN`: R140. -/
  | wrFan (val : U16)
  /-- `WR.VDIR_G`: R141. -/
  | wrVdirG (val : U16)
  /-- `WR.VSWG_G`: R142. -/
  | wrVswgG (val : U16)
  /-- `WR.HDIR_G`: R143. -/
  | wrHdirG (val : U16)
  /-- `WR.HSWG_G`: R144. -/
  | wrHswgG (val : U16)
  /-- `WR.ERR0`: R145. -/
  | wrErr0 (val : U16)
  /-- `WR.ERR1`: R146. -/
  | wrErr1 (val : U16)
  /-- `WR.ROOMT`: R147. -/
  | wrRoomt (val : U16)
  /-- `WR.ECON`: R148. -/
  | wrEcon (val : U16)
  /-- `WR.VDIR[0]`: R149. -/
  | wrVdir0 (val : U16)
  /-- `WR.VDIR[1]`: R149. -/
  | wrVdir1 (val : U16)
  /-- `WR.VDIR[2]`: R149. -/
  | wrVdir2 (val : U16)
  /-- `WR.VDIR[3]`: R149. -/
  | wrVdir3 (val : U16)
  /-- `WR.VSWG[0]`: R150. -/
  | wrVswg0 (val : U16)
  /-- `WR.VSWG[1]`: R150. -/
  | wrVswg1 (val : U16)
  /-- `WR.VSWG[2]`: R150. -/
  | wrVswg2 (val : U16)
  /-- `WR.VSWG[3]`: R150. -/
  | wrVswg3 (val : U16)
  /-- `WR.XVPOS[0]`: R151. -/
  | wrXvpos0 (val : U16)
  /-- `WR.XVPOS[1]`: R151. -/
  | wrXvpos1 (val : U16)
  /-- `WR.XVPOS[2]`: R151. -/
  | wrXvpos2 (val : U16)
  /-- `WR.XVPOS[3]`: R151. -/
  | wrXvpos3 (val : U16)
  /-- `WR.XVSWG[0]`: R152. -/
  | wrXvswg0 (val : U16)
  /-- `WR.XVSWG[1]`: R152. -/
  | wrXvswg1 (val : U16)
  /-- `WR.XVSWG[2]`: R152. -/
  | wrXvswg2 (val : U16)
  /-- `WR.XVSWG[3]`: R152. -/
  | wrXvswg3 (val : U16)
  /-- `WR.XHPOS[0]`: R153. -/
  | wrXhpos0 (val : U16)
  /-- `WR.XHPOS[1]`: R153. -/
  | wrXhpos1 (val : U16)
  /-- `WR.XHPOS[2]`: R153. -/
  | wrXhpos2 (val : U16)
  /-- `WR.XHPOS[3]`: R153. -/
  | wrXhpos3 (val : U16)
  /-- `WR.XHSWG[0]`: R154. -/
  | wrXhswg0 (val : U16)
  /-- `WR.XHSWG[1]`: R154. -/
  | wrXhswg1 (val : U16)
  /-- `WR.XHSWG[2]`: R154. -/
  | wrXhswg2 (val : U16)
  /-- `WR.XHSWG[3]`: R154. -/
  | wrXhswg3 (val : U16)
  /-- `WR.UNKNOWN`: every other object id (R155); an id of EXTRA_OBJ is a plain register (R136). -/
  | wrUnknown (id : U16) (val : U16)
  /-- `QRY.CAP01`: the point (0x01, 0x01) (R168). -/
  | qryCap01
  /-- `QRY.XVPOS[0]`: the point (0x01, 0x32) (R169). -/
  | qryXvpos0
  /-- `QRY.XVPOS[1]`: the point (0x01, 0x33) (R169). -/
  | qryXvpos1
  /-- `QRY.XVPOS[2]`: the point (0x01, 0x34) (R169). -/
  | qryXvpos2
  /-- `QRY.XVPOS[3]`: the point (0x01, 0x35) (R169). -/
  | qryXvpos3
  /-- `QRY.XHPOS[0]`: the point (0x01, 0x44) (R169). -/
  | qryXhpos0
  /-- `QRY.XHPOS[1]`: the point (0x01, 0x45) (R169). -/
  | qryXhpos1
  /-- `QRY.XHPOS[2]`: the point (0x01, 0x46) (R169). -/
  | qryXhpos2
  /-- `QRY.XHPOS[3]`: the point (0x01, 0x47) (R169). -/
  | qryXhpos3
  /-- `QRY.XHSWG[0]`: the point (0x01, 0x48) (R169). -/
  | qryXhswg0
  /-- `QRY.XHSWG[1]`: the point (0x01, 0x49) (R169). -/
  | qryXhswg1
  /-- `QRY.XHSWG[2]`: the point (0x01, 0x4A) (R169). -/
  | qryXhswg2
  /-- `QRY.XHSWG[3]`: the point (0x01, 0x4B) (R169). -/
  | qryXhswg3
  /-- `QRY.PROTO`: class 0x00 (R166). -/
  | qryProto (num : Byte)
  /-- `QRY.CAP`: class 0x01, every other number (R167). -/
  | qryCap (num : Byte)
  /-- `QRY.REG`: class 0x10 (R170). -/
  | qryReg (num : Byte)
  /-- `QRY.ECON`: class 0x11 (R171). -/
  | qryEcon (num : Byte)
  /-- `QRY.NONE`: every other class (R172). -/
  | qryNone (cls : Byte) (num : Byte)
  /-- `GET_STATE`: R201. -/
  | getState (idx : Byte) (arg : U16)
  /-- `SET_POWER`: R189. -/
  | setPower (idx : Byte) (arg : U16)
  /-- `SET_MODE`: R190. -/
  | setMode (idx : Byte) (arg : U16)
  /-- `SET_TEMP`: R192. -/
  | setTemp (idx : Byte) (arg : U16)
  /-- `SET_FAN`: R191. -/
  | setFan (idx : Byte) (arg : U16)
  /-- `SET_SWING`: R193. -/
  | setSwing (idx : Byte) (arg : U16)
  /-- `SET_ROOMTEMP`: R194. -/
  | setRoomTemp (idx : Byte) (arg : U16)
  /-- `SET_MODEL`: R195. -/
  | setModel (idx : Byte) (arg : U16)
  /-- `GET_CAPS`: R202. -/
  | getCaps (idx : Byte) (arg : U16)
  /-- `SET_VVANE_POS`: R197. -/
  | setVvanePos (idx : Byte) (arg : U16)
  /-- `SET_VVANE_SWING`: R198. -/
  | setVvaneSwing (idx : Byte) (arg : U16)
  /-- `SET_HVANE_POS`: R199. -/
  | setHvanePos (idx : Byte) (arg : U16)
  /-- `SET_HVANE_SWING`: R200. -/
  | setHvaneSwing (idx : Byte) (arg : U16)
  /-- `HOST.INVALID`: every other operation code (R188). -/
  | hostInvalid (op : Byte) (idx : Byte) (arg : U16)
deriving DecidableEq, Repr

end Sys2Proof
end

