-- ==== Sys2Proof/Machine/Operands.lean ====
section
/-! DEFINITION. The operand forms: clamped positions, on/off arguments, vane indices, the setpoint and room-temperature
arguments, and the byte lists of entries (spec/44_capability.md R164, spec/45_state_sync.md R189 to R200,
spec/30_encoding.md R71, R72). -/

namespace Sys2Proof.Machine

/-- `CLAMP(p, S)` (R164), unsigned: zero is promoted to 1. -/
def clamp (p S : U16) : U16 := if p.toNat < 1 then 1 else if p.toNat > S.toNat then S else p

/-- The value a per-vane register takes (spec/43_object_writes.md R135): a position is clamped to the step count, a
swing is stored as received. -/
def vaneValue (c : Config) (m : Model) (g : VaneGroup) (val : U16) : U16 :=
  match g.kind with
  | .position => clamp val (steps c m g.axis)
  | .swing => val

/-- An on/off argument: 0 is off, anything else is on (spec/30_encoding.md R78). -/
def isOn (arg : U16) : Bool := arg != 0

/-- The register value of on and off as the host setters store it (spec/45_state_sync.md R189, R198). -/
def onOff (b : Bool) : U16 := if b then 1 else 0

/-- The lowest setpoint the host setter accepts in a mode (spec/45_state_sync.md R192). -/
def setpointLow : HvacMode → Nat
  | .cool => spMinCool
  | .auto => spMin
  | .dry => spMin
  | .fan => spMin
  | .heat => spMin

/-- SET_TEMP accepts its argument in a mode (spec/45_state_sync.md R192). -/
def setpointAccepted (m : HvacMode) (arg : U16) : Bool := setpointLow m ≤ arg.toNat && arg.toNat ≤ spMax

/-- The room temperature of SET_ROOMTEMP's argument: 16-bit two's complement (spec/45_state_sync.md R194). -/
def roomArg (arg : U16) : Int := arg.toInt

/-- SET_ROOMTEMP accepts a temperature (spec/45_state_sync.md R194). -/
def roomAccepted (t : Int) : Bool := decide (rtMin ≤ t) && decide (t ≤ rtMax)

/-- The register value of an accepted room temperature (spec/45_state_sync.md R194). -/
def roomRegister (t : Int) : U16 := BitVec.ofNat 16 (t + rtOffset).toNat

/-- The vane a per-vane setter addresses: an index 0 to 3 whose vane the model supports on the axis
(spec/45_state_sync.md R196). -/
def vaneArg (c : Config) (m : Model) (x : Axis) (idx : Byte) : Option Vane :=
  match vaneOfIndex idx.toNat with
  | some v => if sup c m x v then some v else none
  | none => none

/-- The three address bytes, in order (spec/30_encoding.md R68). -/
def addrBytes (a : Addr) : List Byte := [a.a1, a.a2, a.a3]

/-- An object-mode entry: id, then value, each high byte first (spec/30_encoding.md R71). -/
def objectEntry (id val : U16) : List Byte := [hi8 id, lo8 id, hi8 val, lo8 val]

/-- A class/number entry: class, number, then the status high byte first (spec/30_encoding.md R72). -/
def statusEntry (cls num : Byte) (st : U16) : List Byte := [cls, num, hi8 st, lo8 st]

/-- The bytes of an echo body (spec/30_encoding.md R70). -/
def echoBytes (e : EchoBody) : List Byte := [e.e0, e.e1, e.s0, e.s1]

/-- The body of a CMD0 or CMD1 response: the echo when the payload signals it, else the bare ACK
(spec/42_dispatch.md R119, R120). -/
def handshakeBody (e : Option EchoBody) : List Byte :=
  match e with
  | some b => echoBytes b
  | none => [ackByte]

end Sys2Proof.Machine
end

