-- ==== Sys2Proof/WellFormed.lean ====
section
/-! DEFINITION. When an instruction is one the encoding has: the constraints of spec/opcode_table.json's rows and of
spec/30_encoding.md R57, R66, R76, R80. -/

namespace Sys2Proof

open Machine

/-- The payload fits the synchronizer's bound LEN_MAX (R57). -/
def lenOk (p : List Byte) : Bool := p.length ≤ lenMax

/-- The idle pattern: address zero and no payload (R76). -/
def idleFrame (a : Addr) (p : List Byte) : Bool := a.a1 == 0 && a.a2 == 0 && a.a3 == 0 && p.length == 0

/-- A CMD3 payload is read in object mode: its length is a positive multiple of 4 (R66). -/
def objectMode (p : List Byte) : Bool := 0 < p.length && p.length % 4 == 0

/-- The classes with a row of their own (spec/20_memory.md R39). -/
def populatedClasses : List Byte := [0x00, 0x01, 0x10, 0x11]

/-- The instruction is well formed: its fields have values its own row encodes. -/
def Instr.wf (i : Instr) : Bool :=
  match i with
  | .cmd0 addr payload => lenOk payload && !idleFrame addr payload
  | .cmd1 _ payload => lenOk payload
  | .cmd2 _ payload => lenOk payload
  | .cmd3Obj _ payload => lenOk payload && objectMode payload
  | .cmd3Cls _ payload => lenOk payload && !objectMode payload
  | .wrOnoff _ => true
  | .wrMode _ => true
  | .wrSetpt _ => true
  | .wrFan _ => true
  | .wrVdirG _ => true
  | .wrVswgG _ => true
  | .wrHdirG _ => true
  | .wrHswgG _ => true
  | .wrErr0 _ => true
  | .wrErr1 _ => true
  | .wrRoomt _ => true
  | .wrEcon _ => true
  | .wrVdir0 _ => true
  | .wrVdir1 _ => true
  | .wrVdir2 _ => true
  | .wrVdir3 _ => true
  | .wrVswg0 _ => true
  | .wrVswg1 _ => true
  | .wrVswg2 _ => true
  | .wrVswg3 _ => true
  | .wrXvpos0 _ => true
  | .wrXvpos1 _ => true
  | .wrXvpos2 _ => true
  | .wrXvpos3 _ => true
  | .wrXvswg0 _ => true
  | .wrXvswg1 _ => true
  | .wrXvswg2 _ => true
  | .wrXvswg3 _ => true
  | .wrXhpos0 _ => true
  | .wrXhpos1 _ => true
  | .wrXhpos2 _ => true
  | .wrXhpos3 _ => true
  | .wrXhswg0 _ => true
  | .wrXhswg1 _ => true
  | .wrXhswg2 _ => true
  | .wrXhswg3 _ => true
  | .wrUnknown id _ => !registryIds.contains id
  | .qryCap01 => true
  | .qryXvpos0 => true
  | .qryXvpos1 => true
  | .qryXvpos2 => true
  | .qryXvpos3 => true
  | .qryXhpos0 => true
  | .qryXhpos1 => true
  | .qryXhpos2 => true
  | .qryXhpos3 => true
  | .qryXhswg0 => true
  | .qryXhswg1 => true
  | .qryXhswg2 => true
  | .qryXhswg3 => true
  | .qryProto _ => true
  | .qryCap num => num != 0x01 && !capVaneNumbers.contains num
  | .qryReg _ => true
  | .qryEcon _ => true
  | .qryNone cls _ => !populatedClasses.contains cls
  | .getState _ _ => true
  | .setPower _ _ => true
  | .setMode _ _ => true
  | .setTemp _ _ => true
  | .setFan _ _ => true
  | .setSwing _ _ => true
  | .setRoomTemp _ _ => true
  | .setModel _ _ => true
  | .getCaps _ _ => true
  | .setVvanePos _ _ => true
  | .setVvaneSwing _ _ => true
  | .setHvanePos _ _ => true
  | .setHvaneSwing _ _ => true
  | .hostInvalid op _ _ => 0x0D ≤ op.toNat

end Sys2Proof
end

