-- ==== Sys2Proof/Decode.lean ====
section
/-! DEFINITION. The decoder, total on every word of every format and refusing by name, and after it the encoder
(spec/30_encoding.md R56 to R80, spec/opcode_table.json). -/

namespace Sys2Proof

open Machine

/-- An instruction word, in one of the four formats of the opcode table (R80): a frame's bytes, an object pair
(R65), a class/number pair (R67), a host operation word (R78). -/
inductive Code
  | frame (f : List Byte)
  | pair (w : BitVec 32)
  | clsnum (w : BitVec 16)
  | host (w : BitVec 32)
deriving DecidableEq, Repr

/-- Why a frame does not decode. Only a frame can fail: every pair, class/number pair and host word decodes. -/
inductive DecodeError
  /-- Fewer than the five header bytes. -/
  | shortFrame
  /-- The command byte is not in CMDSET (R74). -/
  | notACommand
  /-- The length byte is above LEN_MAX (R75, spec/42_dispatch.md R132). -/
  | lengthTooLarge
  /-- The bytes held are not the `5 + N + 2` the length byte declares (R56). -/
  | lengthMismatch
  /-- The reserved idle pattern (R76). -/
  | idlePattern
deriving DecidableEq, Repr

/-- The commands by their code (R59), CMD3 by its mode (R66). -/
def decodeCommand (c : Byte) (a : Addr) (p : List Byte) : Except DecodeError Instr :=
  match c.toNat with
  | 0x00 => if idleFrame a p then .error .idlePattern else .ok (.cmd0 a p)
  | 0x01 => .ok (.cmd1 a p)
  | 0x02 => .ok (.cmd2 a p)
  | 0x03 => if objectMode p then .ok (.cmd3Obj a p) else .ok (.cmd3Cls a p)
  | _ => .error .notACommand

/-- A frame (R56): command, three address bytes, length N, N payload bytes, two checksum bytes. The checksum is not
looked at: the synchronizer has verified it (spec/42_dispatch.md R115, R116). -/
def decodeFrame (f : List Byte) : Except DecodeError Instr :=
  match f with
  | c :: a1 :: a2 :: a3 :: n :: body =>
    if lenMax < n.toNat then .error .lengthTooLarge
    else if body.length ≠ n.toNat + cksLen then .error .lengthMismatch
    else decodeCommand c { a1 := a1, a2 := a2, a3 := a3 } (body.take n.toNat)
  | _ => .error .shortFrame

/-- An object pair by its id (R65 and the PAIR rows); the catch-all row WR.UNKNOWN is tried last. -/
def decodeObject (id val : U16) : Instr :=
  match id.toNat with
  | 0x1000 => .wrOnoff val
  | 0x1001 => .wrMode val
  | 0x1002 => .wrSetpt val
  | 0x1003 => .wrFan val
  | 0x1010 => .wrVdirG val
  | 0x1011 => .wrVswgG val
  | 0x1022 => .wrHdirG val
  | 0x1023 => .wrHswgG val
  | 0x1030 => .wrErr0 val
  | 0x1031 => .wrErr1 val
  | 0x1033 => .wrRoomt val
  | 0x1100 => .wrEcon val
  | 0x1012 => .wrVdir0 val
  | 0x1014 => .wrVdir1 val
  | 0x1016 => .wrVdir2 val
  | 0x1018 => .wrVdir3 val
  | 0x1013 => .wrVswg0 val
  | 0x1015 => .wrVswg1 val
  | 0x1017 => .wrVswg2 val
  | 0x1019 => .wrVswg3 val
  | 0x0132 => .wrXvpos0 val
  | 0x0133 => .wrXvpos1 val
  | 0x0134 => .wrXvpos2 val
  | 0x0135 => .wrXvpos3 val
  | 0x103A => .wrXvswg0 val
  | 0x103B => .wrXvswg1 val
  | 0x103C => .wrXvswg2 val
  | 0x103D => .wrXvswg3 val
  | 0x0144 => .wrXhpos0 val
  | 0x0145 => .wrXhpos1 val
  | 0x0146 => .wrXhpos2 val
  | 0x0147 => .wrXhpos3 val
  | 0x0148 => .wrXhswg0 val
  | 0x0149 => .wrXhswg1 val
  | 0x014A => .wrXhswg2 val
  | 0x014B => .wrXhswg3 val
  | _ => .wrUnknown id val

/-- A pair word: `objectId` = bits [31:16], `value` = bits [15:0] (R65). -/
def decodePair (w : BitVec 32) : Instr := decodeObject (w.extractLsb' 16 16) (w.extractLsb' 0 16)

/-- A point of class 0x01 by its number (the CLSNUM rows); the row QRY.CAP is tried after the fixed points. -/
def decodeCapability (num : Byte) : Instr :=
  match num.toNat with
  | 0x01 => .qryCap01
  | 0x32 => .qryXvpos0
  | 0x33 => .qryXvpos1
  | 0x34 => .qryXvpos2
  | 0x35 => .qryXvpos3
  | 0x44 => .qryXhpos0
  | 0x45 => .qryXhpos1
  | 0x46 => .qryXhpos2
  | 0x47 => .qryXhpos3
  | 0x48 => .qryXhswg0
  | 0x49 => .qryXhswg1
  | 0x4A => .qryXhswg2
  | 0x4B => .qryXhswg3
  | _ => .qryCap num

/-- A class/number point by its class (the CLSNUM rows); the catch-all row QRY.NONE is tried last. -/
def decodePoint (cls num : Byte) : Instr :=
  match cls.toNat with
  | 0x00 => .qryProto num
  | 0x01 => decodeCapability num
  | 0x10 => .qryReg num
  | 0x11 => .qryEcon num
  | _ => .qryNone cls num

/-- A class/number word: `class` = bits [15:8], `number` = bits [7:0] (R67). -/
def decodeClsnum (w : BitVec 16) : Instr := decodePoint (w.extractLsb' 8 8) (w.extractLsb' 0 8)

/-- A host operation by its code (R78); the catch-all row HOST.INVALID is tried last. -/
def decodeHostOp (op idx : Byte) (arg : U16) : Instr :=
  match op.toNat with
  | 0x00 => .getState idx arg
  | 0x01 => .setPower idx arg
  | 0x02 => .setMode idx arg
  | 0x03 => .setTemp idx arg
  | 0x04 => .setFan idx arg
  | 0x05 => .setSwing idx arg
  | 0x06 => .setRoomTemp idx arg
  | 0x07 => .setModel idx arg
  | 0x08 => .getCaps idx arg
  | 0x09 => .setVvanePos idx arg
  | 0x0A => .setVvaneSwing idx arg
  | 0x0B => .setHvanePos idx arg
  | 0x0C => .setHvaneSwing idx arg
  | _ => .hostInvalid op idx arg

/-- A host operation word: `op` = bits [31:24], `idx` = bits [23:16], `arg` = bits [15:0] (R78). -/
def decodeHost (w : BitVec 32) : Instr :=
  decodeHostOp (w.extractLsb' 24 8) (w.extractLsb' 16 8) (w.extractLsb' 0 16)

/-- The decoder. -/
def decode : Code → Except DecodeError Instr
  | .frame f => decodeFrame f
  | .pair w => .ok (decodePair w)
  | .clsnum w => .ok (decodeClsnum w)
  | .host w => .ok (decodeHost w)

/-- `frame(c, A, P)` (R79): a whole frame with its checksum. -/
def frameBytes (c : Byte) (a : Addr) (p : List Byte) : List Byte :=
  sealFrame ([c, a.a1, a.a2, a.a3, BitVec.ofNat 8 p.length] ++ p)

/-- The pair word of an id and a value (R65). -/
def pairOf (id val : U16) : Code := .pair (id ++ val)

/-- The word of a class/number point (R67). -/
def pointOf (cls num : Byte) : Code := .clsnum (cls ++ num)

/-- The host operation word (R78). -/
def hostOf (op idx : Byte) (arg : U16) : Code := .host ((op ++ idx) ++ arg)

/-- The encoder: the words of an instruction, from the same tables. -/
def encode (i : Instr) : Code :=
  match i with
  | .cmd0 addr payload => .frame (frameBytes 0x00 addr payload)
  | .cmd1 addr payload => .frame (frameBytes 0x01 addr payload)
  | .cmd2 addr payload => .frame (frameBytes 0x02 addr payload)
  | .cmd3Obj addr payload => .frame (frameBytes 0x03 addr payload)
  | .cmd3Cls addr payload => .frame (frameBytes 0x03 addr payload)
  | .wrOnoff val => pairOf 0x1000 val
  | .wrMode val => pairOf 0x1001 val
  | .wrSetpt val => pairOf 0x1002 val
  | .wrFan val => pairOf 0x1003 val
  | .wrVdirG val => pairOf 0x1010 val
  | .wrVswgG val => pairOf 0x1011 val
  | .wrHdirG val => pairOf 0x1022 val
  | .wrHswgG val => pairOf 0x1023 val
  | .wrErr0 val => pairOf 0x1030 val
  | .wrErr1 val => pairOf 0x1031 val
  | .wrRoomt val => pairOf 0x1033 val
  | .wrEcon val => pairOf 0x1100 val
  | .wrVdir0 val => pairOf 0x1012 val
  | .wrVdir1 val => pairOf 0x1014 val
  | .wrVdir2 val => pairOf 0x1016 val
  | .wrVdir3 val => pairOf 0x1018 val
  | .wrVswg0 val => pairOf 0x1013 val
  | .wrVswg1 val => pairOf 0x1015 val
  | .wrVswg2 val => pairOf 0x1017 val
  | .wrVswg3 val => pairOf 0x1019 val
  | .wrXvpos0 val => pairOf 0x0132 val
  | .wrXvpos1 val => pairOf 0x0133 val
  | .wrXvpos2 val => pairOf 0x0134 val
  | .wrXvpos3 val => pairOf 0x0135 val
  | .wrXvswg0 val => pairOf 0x103A val
  | .wrXvswg1 val => pairOf 0x103B val
  | .wrXvswg2 val => pairOf 0x103C val
  | .wrXvswg3 val => pairOf 0x103D val
  | .wrXhpos0 val => pairOf 0x0144 val
  | .wrXhpos1 val => pairOf 0x0145 val
  | .wrXhpos2 val => pairOf 0x0146 val
  | .wrXhpos3 val => pairOf 0x0147 val
  | .wrXhswg0 val => pairOf 0x0148 val
  | .wrXhswg1 val => pairOf 0x0149 val
  | .wrXhswg2 val => pairOf 0x014A val
  | .wrXhswg3 val => pairOf 0x014B val
  | .wrUnknown id val => pairOf id val
  | .qryCap01 => pointOf 0x01 0x01
  | .qryXvpos0 => pointOf 0x01 0x32
  | .qryXvpos1 => pointOf 0x01 0x33
  | .qryXvpos2 => pointOf 0x01 0x34
  | .qryXvpos3 => pointOf 0x01 0x35
  | .qryXhpos0 => pointOf 0x01 0x44
  | .qryXhpos1 => pointOf 0x01 0x45
  | .qryXhpos2 => pointOf 0x01 0x46
  | .qryXhpos3 => pointOf 0x01 0x47
  | .qryXhswg0 => pointOf 0x01 0x48
  | .qryXhswg1 => pointOf 0x01 0x49
  | .qryXhswg2 => pointOf 0x01 0x4A
  | .qryXhswg3 => pointOf 0x01 0x4B
  | .qryProto num => pointOf 0x00 num
  | .qryCap num => pointOf 0x01 num
  | .qryReg num => pointOf 0x10 num
  | .qryEcon num => pointOf 0x11 num
  | .qryNone cls num => pointOf cls num
  | .getState idx arg => hostOf 0x00 idx arg
  | .setPower idx arg => hostOf 0x01 idx arg
  | .setMode idx arg => hostOf 0x02 idx arg
  | .setTemp idx arg => hostOf 0x03 idx arg
  | .setFan idx arg => hostOf 0x04 idx arg
  | .setSwing idx arg => hostOf 0x05 idx arg
  | .setRoomTemp idx arg => hostOf 0x06 idx arg
  | .setModel idx arg => hostOf 0x07 idx arg
  | .getCaps idx arg => hostOf 0x08 idx arg
  | .setVvanePos idx arg => hostOf 0x09 idx arg
  | .setVvaneSwing idx arg => hostOf 0x0A idx arg
  | .setHvanePos idx arg => hostOf 0x0B idx arg
  | .setHvaneSwing idx arg => hostOf 0x0C idx arg
  | .hostInvalid op idx arg => hostOf op idx arg

/-- The bytes of a frame of which only the 40-bit header is given: command in bits [39:32], address in [31:8], length in
[7:0] (R56). The payload and the two checksum bytes are zero. -/
def headerFrame (w : Nat) : List Byte :=
  [BitVec.ofNat 8 (w / 0x100000000), BitVec.ofNat 8 (w / 0x1000000), BitVec.ofNat 8 (w / 0x10000), BitVec.ofNat 8 (w / 0x100),
    BitVec.ofNat 8 w] ++ List.replicate (w % 256 + cksLen) 0

/-- Whether a 32-bit word of the opcode table is read as a host operation word. The PAIR and HOST rows share their 32
bits, and only the port a word arrives at tells them apart; here the table's own order decides: the 36 PAIR rows, then
the 13 HOST rows, then the first catch-all row (WR.UNKNOWN). DESIGN CHOICE (notes/assumptions/11.md). -/
def tableWordIsHost (w : BitVec 32) : Bool :=
  !registryIds.contains (w.extractLsb' 16 16) && decide ((w.extractLsb' 24 8).toNat < 0x0D)

/-- The word of a row of the opcode table, by its number of bits: 40 a frame header, 32 a pair or a host operation, 16 a
class/number pair. -/
def tableCode (nbits w : Nat) : Option Code :=
  match nbits with
  | 40 => some (.frame (headerFrame w))
  | 32 =>
    let v := BitVec.ofNat 32 w
    if tableWordIsHost v then some (.host v) else some (.pair v)
  | 16 => some (.clsnum (BitVec.ofNat 16 w))
  | _ => none

/-- The instruction the decoder reads from a word numbered as spec/opcode_table.json numbers it. -/
def decodeTableWord (nbits w : Nat) : Option Instr :=
  match tableCode nbits w with
  | some c => (decode c).toOption
  | none => none

end Sys2Proof
end

