-- ==== Sys2Proof/Machine/Flags.lean ====
section
/-! DEFINITION. The snapshot's fields as computed from the registers, and R2S (spec/45_state_sync.md R177 to R184). They
are what the block has in place of condition flags (spec/10_state.md R25). -/

namespace Sys2Proof.Machine

/-- `MODE_OF` (R179); an unknown code has no mode. -/
def modeOf (code : U16) : Option HvacMode :=
  match code.toNat with
  | 0 => some .auto
  | 1 => some .cool
  | 2 => some .dry
  | 3 => some .fan
  | 4 => some .heat
  | _ => none

/-- `FAN_OF` (R180); an unknown code has no speed. -/
def fanOf (code : U16) : Option FanSpeed :=
  match code.toNat with
  | 0 => some .auto
  | 2 => some .quiet
  | 5 => some .low
  | 8 => some .medium
  | 11 => some .high
  | _ => none

/-- Power (R178): the start/stop register is not 0. -/
def powerOf (b : Bank) : Bool := b.onoff != 0

/-- Swing (R181): some register of SWINGSET is not 0, whether or not the model supports the vane. -/
def swingOf (b : Bank) : Bool := swingSet.any (fun o => bankRead b o != 0)

/-- The setpoint a register value gives (R182): itself when it lies in 160 to 300. -/
def setpointOf (r : U16) : Option Nat := if spMin ≤ r.toNat ∧ r.toNat ≤ spMax then some r.toNat else none

/-- The room temperature a register value gives (R183): register - 5000 when that is plausible. 0xFFFF ("unset") and
everything above 13000 give none. -/
def roomOf (r : U16) : Option Int :=
  if rtMin ≤ (r.toNat : Int) - rtOffset ∧ (r.toNat : Int) - rtOffset ≤ rtMax then some ((r.toNat : Int) - rtOffset) else none

/-- `R2S(S, REG)` (R177), which also reads MODEL: a field whose register does not decode keeps its value in `S`. -/
def r2s (m : Model) (b : Bank) (s : Snapshot) : Snapshot :=
  { power := powerOf b
    mode := (modeOf b.mode).getD s.mode
    setpoint := (setpointOf b.setpt).getD s.setpoint
    fan := (fanOf b.fan).getD s.fan
    swing := swingOf b
    room := (roomOf b.roomt).getD s.room
    model := m }

end Sys2Proof.Machine
end

