-- ==== Sys2Proof/Machine/State.lean ====
section
/-! DEFINITION. The machine's state as plain data, the reasons a step can stop, and the state after reset
(spec/10_state.md, spec/60_exceptions.md R205, R211). -/

namespace Sys2Proof.Machine

/-- LINK (spec/10_state.md R32). -/
inductive Link
  | bound
  | unbound
deriving DecidableEq, Repr

/-- The twelve conditions of spec/60_exceptions.md R205, each with its information. -/
inductive Condition
  | notACommand (i : Nat)
  | lengthTooLarge (i n : Nat)
  | partialFrame (expected held : Nat)
  | truncatedCandidate (i : Nat)
  | idlePattern (i : Nat)
  | checksumMismatch (i : Nat)
  | bufferOverflow (n : Nat)
  | unknownObject (id : U16)
  | vaneUnsupported (id : U16)
  | invalidRequest (op idx : Byte) (arg : U16)
  | txFailed
  | transportDown
deriving DecidableEq, Repr

/-- The outcome of a SCAN (spec/41_frame_sync.md R106): FOUND, PARTIAL, NONE. -/
inductive ScanOutcome
  | found
  | partialFront
  | noFrame
deriving DecidableEq, Repr

/-- The result of one READ invocation (spec/41_frame_sync.md R105). -/
inductive ReadResult
  | frame (f : List Byte)
  | timedOut
deriving DecidableEq, Repr

/-- What a host operation returns: the snapshot, or the capability fields for GET_CAPS
(spec/10_state.md R30, spec/45_state_sync.md R187, R202). -/
inductive HostReturn
  | snapshot (s : Snapshot)
  | caps (c : Caps)
deriving DecidableEq, Repr

/-- What happens next, in the order the environment and the lock give it (spec/60_exceptions.md R211,
spec/20_memory.md R48). DESIGN CHOICE (notes/assumptions/5.md). -/
inductive Event
  /-- The protocol agent takes its next step. -/
  | agent
  /-- The transport delivers a chunk to the READ in progress. -/
  | chunk (c : List Byte)
  /-- The caller-supplied timeout of the READ in progress expires. -/
  | timeout
  /-- The host agent presents an operation word. -/
  | host (w : BitVec 32)
  /-- TRANSPORT_FAIL. -/
  | transportFail
  /-- REBIND. -/
  | rebind
  /-- RESET, with the MODEL_AT_RESET that the persistence collaborator supplies (spec/70_reset_and_hazards.md R229). -/
  | reset (modelAtReset : Nat)
  /-- The protocol agent's TX, which the writer fails. -/
  | txFail
deriving DecidableEq, Repr

/-- Where the protocol agent stands between two of its atomic sections (spec/20_memory.md R49, R50,
spec/42_dispatch.md R128). DESIGN CHOICE (notes/assumptions/6.md). -/
inductive Phase
  /-- Inside READ, waiting for a chunk or TIMEOUT. -/
  | reading
  /-- A chunk has been pushed; SCAN comes next. -/
  | scanning
  /-- SCAN has returned FOUND; DISPATCH comes next. -/
  | dispatching (f : List Byte)
  /-- A CMD2 in progress: the payload bytes from the pair cursor on. -/
  | writing (a : Addr) (rest : List Byte)
  /-- A CMD3 in object mode in progress. -/
  | readingObjects (a : Addr) (rest : List Byte)
  /-- A CMD3 in class/number mode in progress. -/
  | readingPoints (a : Addr) (rest : List Byte)
  /-- The response is built; TX comes next. -/
  | responding (r : List Byte)
deriving DecidableEq, Repr

/-- Why a step stops with a fault: never. The spec treats no behaviour as a fault
(spec/93_implementation_defined.md: "No error in this system is fatal to the process"). -/
inductive Fault
deriving DecidableEq, Repr

/-- Why a step is refused. -/
inductive Refusal
  /-- An instruction without a meaning; raised by `exec`'s arm alone, and no arm raises it. Safe. -/
  | notModelled (mnemonic : String)
  /-- The configuration is ill formed (spec/00_scope.md R8: "A model should refuse an ill-formed configuration rather
  than run it"); raised by `step`. Safe. -/
  | illFormedConfig
  /-- DISPATCH of bytes that the synchronizer never delivers (spec/42_dispatch.md R132); raised by `step`. Safe. -/
  | undeliverable (e : DecodeError)
  /-- DISPATCH of a payload longer than LEN_MAX (spec/42_dispatch.md R132); raised by the meanings of the commands.
  Safe. -/
  | payloadTooLong
deriving DecidableEq, Repr

structure State where
  /-- The open parameters (spec/00_scope.md R7); no step changes them, but for the MODEL_AT_RESET that comes with a RESET.
  The model's own field. -/
  cfg : Config
  /-- The events still to come. The model's own field. -/
  env : List Event
  /-- LINK (spec/10_state.md R32). -/
  link : Link
  /-- BUF, oldest byte first (spec/10_state.md R14). -/
  buf : List Byte
  /-- Where the protocol agent stands. The model's own field. -/
  phase : Phase
  /-- The entries of the CMD3 response in progress. The model's own field. -/
  entries : List Byte
  /-- MODEL (spec/10_state.md R19). -/
  model : Model
  /-- REG (spec/10_state.md R17, R18). -/
  regs : Bank
  /-- SNAP (spec/10_state.md R22). -/
  snap : Snapshot
  /-- The frames handed to TX, oldest first (spec/10_state.md R28, R30). Output only. -/
  tx : List (List Byte)
  /-- The ids emitted by PERSIST, oldest first (spec/10_state.md R30). Output only. -/
  persisted : List Model
  /-- The values returned to the host, oldest first (spec/45_state_sync.md R187). Output only. -/
  returned : List HostReturn
  /-- The results of READ, oldest first (spec/41_frame_sync.md R105). Output only. -/
  reads : List ReadResult
  /-- The outcomes of SCAN, oldest first (spec/10_state.md R25). Output only. -/
  scans : List ScanOutcome
  /-- The conditions raised, oldest first (spec/60_exceptions.md R206, R219). Output only. -/
  diag : List Condition
deriving DecidableEq, Repr

/-- The state after RESET under a configuration (spec/10_state.md R28, spec/70_reset_and_hazards.md R227). -/
def State.resetWith (c : Config) : State :=
  { cfg := c
    env := []
    link := .unbound
    buf := []
    phase := .reading
    entries := []
    model := modelAtReset c
    regs := resetBank c
    snap := r2s (modelAtReset c) (resetBank c) { c.snapSeed with model := modelAtReset c }
    tx := []
    persisted := []
    returned := []
    reads := []
    scans := []
    diag := [] }

/-- The state after RESET under the default configuration (notes/assumptions/2.md, 3.md, 4.md). -/
def State.reset : State := State.resetWith standardConfig

end Sys2Proof.Machine
end

