-- ==== Sys2Proof/Machine/Ops.lean ====
section
/-! DEFINITION. The shared operations over the state: raising a condition, writing registers with the snapshot
recomputed, reading objects and class/number points, building and handing over a response, answering the host
(spec/42_dispatch.md, spec/43_object_writes.md, spec/44_capability.md, spec/45_state_sync.md). -/

namespace Sys2Proof.Machine

/-- What a meaning answers. -/
abbrev Result := Host.Outcome State Fault Refusal

/-- `raise` (spec/60_exceptions.md R206): a diagnostic; no control transfer and no other change. This is the block's
whole "exception entry" (R217), and there is no return from it (R218). -/
def raise (c : Condition) (s : State) : State := { s with diag := s.diag ++ [c] }

/-- `SNAP <- R2S(SNAP, REG)` (spec/45_state_sync.md R177, R186). -/
def resync (s : State) : State := { s with snap := r2s s.model s.regs s.snap }

/-- One register written, the snapshot left to the caller. -/
def setReg (o : Obj) (x : U16) (s : State) : State := { s with regs := bankWrite s.regs o x }

/-- A wire write to a plain register (spec/43_object_writes.md R136): stored unchanged, snapshot recomputed. -/
def writePlain (o : Obj) (val : U16) (s : State) : State := resync (setReg o val s)

/-- A wire write to a per-vane register (spec/43_object_writes.md R135, R149 to R154): only where the model supports the
vane, a position clamped. -/
def writeVane (g : VaneGroup) (v : Vane) (val : U16) (s : State) : State :=
  if sup s.cfg s.model g.axis v then resync (setReg (.vane g v) (vaneValue s.cfg s.model g val) s)
  else raise (.vaneUnsupported (objId (.vane g v))) s

/-- A wire write to an id outside the registry: a register of EXTRA_OBJ is plain (spec/43_object_writes.md R136), every
other id is ignored (R155). -/
def writeOther (id val : U16) (s : State) : State :=
  if id ∈ s.cfg.extraObj then writePlain (.extra id) val s else raise (.unknownObject id) s

/-- `WRITE_OBJ(id, val)` (spec/43_object_writes.md R135). -/
def writeObj (id val : U16) (s : State) : State :=
  match registryFind id with
  | some (.vane g v) => writeVane g v val s
  | some o => writePlain o val s
  | none => writeOther id val s

/-- The pairs of a CMD2 payload applied in order (spec/42_dispatch.md R121, R122); 1 to 3 leftover bytes are
ignored (spec/20_memory.md R43). -/
def writePairs : List Byte → State → State
  | p0 :: p1 :: p2 :: p3 :: rest, s => writePairs rest (writeObj (be16 p0 p1) (be16 p2 p3) s)
  | _, s => s

/-- The entries of the response in progress grow. -/
def appendEntry (e : List Byte) (s : State) : State := { s with entries := s.entries ++ e }

/-- One object-mode read (spec/42_dispatch.md R124): the register, or 0 with UnknownObject for a hole. -/
def readObject (id : U16) (s : State) : State :=
  match objFind s.cfg.extraObj id with
  | some o => appendEntry (objectEntry id (bankRead s.regs o)) s
  | none => appendEntry (objectEntry id 0) (raise (.unknownObject id) s)

/-- The object-mode reads of a CMD3 payload in order (spec/42_dispatch.md R124); the value half is ignored. -/
def readObjects : List Byte → State → State
  | p0 :: p1 :: _ :: _ :: rest, s => readObjects rest (readObject (be16 p0 p1) s)
  | _, s => s

/-- A per-vane point of class 0x01 (spec/44_capability.md R169): the cell of a supported vane, else the sentinel. -/
def vanePoint (g : VaneGroup) (v : Vane) (s : State) : U16 :=
  if sup s.cfg s.model g.axis v then bankRead s.regs (.vane g v) else sentinel

/-- A capability constant of class 0x01 (spec/44_capability.md R167). -/
def capPoint (num : Byte) (s : State) : U16 := (capConst s.cfg s.model num).getD sentinel

/-- A point of class 0x00 (spec/44_capability.md R166). -/
def protoPoint (num : Byte) (s : State) : U16 := (protoInfo s.cfg num).getD sentinel

/-- A register readback point of class 0x10 or 0x11 (spec/44_capability.md R170, R171): the register with id
`class * 256 + number`, with no support check, or the sentinel for a hole. -/
def regPoint (cls num : Byte) (s : State) : U16 :=
  match objFind s.cfg.extraObj (be16 cls num) with
  | some o => bankRead s.regs o
  | none => sentinel

/-- `STATUS(m, REG, cl, nu)` (spec/44_capability.md R165), on the state's MODEL, REG and parameters. -/
def status (cls num : Byte) (s : State) : U16 :=
  if cls = 0x00 then protoPoint num s
  else if cls = 0x01 then
    match registryFind (be16 0x01 num) with
    | some (.vane g v) => vanePoint g v s
    | _ => capPoint num s
  else if cls = 0x10 then regPoint 0x10 num s
  else if cls = 0x11 then regPoint 0x11 num s
  else sentinel

/-- One class/number entry (spec/42_dispatch.md R126) with its status. -/
def answerPoint (cls num : Byte) (st : U16) (s : State) : State := appendEntry (statusEntry cls num st) s

/-- The class/number entries of a CMD3 payload in order (spec/42_dispatch.md R126); a trailing odd byte is ignored. -/
def readPoints : List Byte → State → State
  | q0 :: q1 :: rest, s => readPoints rest (answerPoint q0 q1 (status q0 q1 s) s)
  | _, s => s

/-- `RESP(c, A, body)` (spec/42_dispatch.md R118). -/
def response (c : Byte) (a : Addr) (body : List Byte) : List Byte :=
  sealFrame ([c] ++ addrBytes a ++ [BitVec.ofNat 8 body.length] ++ body)

/-- The body of a CMD3 response (spec/42_dispatch.md R123, R125): ACK, the length byte L, the entries. -/
def queryBody (c : Config) (entries : List Byte) : List Byte :=
  [ackByte, BitVec.ofNat 8 (entries.length + c.cmd3LBias)] ++ entries

/-- The response is built and waits for TX; no entries are left in progress. -/
def respondWith (c : Byte) (a : Addr) (body : List Byte) (s : State) : State :=
  { s with phase := .responding (response c a body), entries := [] }

/-- The response of a CMD3 whose entries are complete. -/
def respondQuery (a : Addr) (s : State) : State := respondWith 0x03 a (queryBody s.cfg s.entries) s

/-- `TX(f)` (spec/10_state.md R30, spec/42_dispatch.md R129): the frame is handed over and the agent reads again. -/
def transmit (r : List Byte) (s : State) : State := { s with tx := s.tx ++ [r], phase := .reading }

/-- DISPATCH exposed on its own refuses a payload longer than LEN_MAX (spec/42_dispatch.md R132). -/
def guardLength (p : List Byte) (s : State) : Result :=
  if p.length ≤ lenMax then .next s else .refused .payloadTooLong

/-- A host operation returns the snapshot as it stands (spec/45_state_sync.md R187). -/
def returnSnapshot (s : State) : State := { s with returned := s.returned ++ [.snapshot s.snap] }

/-- A rejected host operation (spec/45_state_sync.md R188): InvalidRequest, DeviceState unchanged, the unchanged
snapshot returned. -/
def reject (op idx : Byte) (arg : U16) (s : State) : State := returnSnapshot (raise (.invalidRequest op idx arg) s)

/-- An accepted setter's register write, the snapshot as the setter leaves it, and the snapshot returned
(spec/45_state_sync.md R187). -/
def acceptWrite (o : Obj) (x : U16) (snap : Snapshot) (s : State) : State :=
  returnSnapshot { setReg o x s with snap := snap }

/-- PERSIST(id) (spec/10_state.md R30). -/
def persist (m : Model) (s : State) : State := { s with persisted := s.persisted ++ [m] }

end Sys2Proof.Machine
end

