-- ==== Sys2Proof/Machine/Command.lean ====
section
/-! DEFINITION. The four commands (spec/42_dispatch.md). Under ATOMIC_UNIT = PAIR a CMD2 or CMD3 begins its sequence of
sections and the step goes on with it; under FRAME it runs to its response at once (R128). -/

namespace Sys2Proof.Machine

/-- `CMD0` (R119): start handshake. -/
def execCmd0 (addr : Addr) (payload : List Byte) (s : State) : Result :=
  guardLength payload (respondWith 0x00 addr (handshakeBody (hs0 s.cfg payload)) s)

/-- `CMD1` (R120): equipment info. -/
def execCmd1 (addr : Addr) (payload : List Byte) (s : State) : Result :=
  guardLength payload (respondWith 0x01 addr (handshakeBody (hs1 s.cfg payload)) s)

/-- `CMD2` (R121): object write. The response is always the bare ACK. -/
def execCmd2 (addr : Addr) (payload : List Byte) (s : State) : Result :=
  guardLength payload
    (match s.cfg.atomicUnit with
      | .pair => { s with phase := .writing addr payload, entries := [] }
      | .frame => respondWith 0x02 addr [ackByte] (writePairs payload s))

/-- `CMD3.OBJ` (R123, R124): status query in object mode. -/
def execCmd3Obj (addr : Addr) (payload : List Byte) (s : State) : Result :=
  guardLength payload
    (match s.cfg.atomicUnit with
      | .pair => { s with phase := .readingObjects addr payload, entries := [] }
      | .frame => respondQuery addr (readObjects payload { s with entries := [] }))

/-- `CMD3.CLS` (R123, R126): equipment confirmation in class/number mode. -/
def execCmd3Cls (addr : Addr) (payload : List Byte) (s : State) : Result :=
  guardLength payload
    (match s.cfg.atomicUnit with
      | .pair => { s with phase := .readingPoints addr payload, entries := [] }
      | .frame => respondQuery addr (readPoints payload { s with entries := [] }))

end Sys2Proof.Machine
end

