-- ==== Sys2Proof/Machine/HostPort.lean ====
section
/-! DEFINITION. The host-port operations (spec/45_state_sync.md R187 to R202), each one atomic section. `idx` is ignored by
every operation but the per-vane setters (spec/30_encoding.md R78); a rejection names the whole operation word. -/

namespace Sys2Proof.Machine

/-- `GET_STATE` (R201): returns SNAP, changes nothing. -/
def execGetState (_idx : Byte) (_arg : U16) (s : State) : Result := .next (returnSnapshot s)

/-- `SET_POWER` (R189): always accepted. -/
def execSetPower (_idx : Byte) (arg : U16) (s : State) : Result :=
  .next (acceptWrite .onoff (onOff (isOn arg)) { s.snap with power := isOn arg } s)

/-- `SET_MODE` (R190): accepted for the five mode codes. -/
def execSetMode (idx : Byte) (arg : U16) (s : State) : Result :=
  match modeOf arg with
  | some m => .next (acceptWrite .mode arg { s.snap with mode := m } s)
  | none => .next (reject 0x02 idx arg s)

/-- `SET_TEMP` (R192): accepted in the range of the snapshot's mode. -/
def execSetTemp (idx : Byte) (arg : U16) (s : State) : Result :=
  if setpointAccepted s.snap.mode arg then .next (acceptWrite .setpt arg { s.snap with setpoint := arg.toNat } s)
  else .next (reject 0x03 idx arg s)

/-- `SET_FAN` (R191): accepted for the five fan codes. -/
def execSetFan (idx : Byte) (arg : U16) (s : State) : Result :=
  match fanOf arg with
  | some f => .next (acceptWrite .fan arg { s.snap with fan := f } s)
  | none => .next (reject 0x04 idx arg s)

/-- `SET_SWING` (R193): on sets VSWG_G to 1, off clears the 14 registers of SWINGSET; always accepted. -/
def execSetSwing (_idx : Byte) (arg : U16) (s : State) : Result :=
  if isOn arg then .next (acceptWrite .vswgG 1 { s.snap with swing := true } s)
  else .next (returnSnapshot { s with regs := bankWriteAll s.regs swingSet 0, snap := { s.snap with swing := false } })

/-- `SET_ROOMTEMP` (R194): accepted for -50.00 to 80.00 degrees. -/
def execSetRoomTemp (idx : Byte) (arg : U16) (s : State) : Result :=
  if roomAccepted (roomArg arg) then
    .next (acceptWrite .roomt (roomRegister (roomArg arg)) { s.snap with room := roomArg arg } s)
  else .next (reject 0x06 idx arg s)

/-- `SET_MODEL` (R195): the 24 per-vane registers go to 0, the snapshot is recomputed, the id is persisted. The static
capability fields follow MODEL, since they are read from its profile (spec/10_state.md R20). -/
def execSetModel (idx : Byte) (arg : U16) (s : State) : Result :=
  match modelOfId arg.toNat with
  | some m =>
    .next (returnSnapshot (persist m (resync { s with model := m, regs := bankWriteAll s.regs vaneRegistry 0 })))
  | none => .next (reject 0x07 idx arg s)

/-- `GET_CAPS` (R202): returns the static capability fields, changes nothing. -/
def execGetCaps (_idx : Byte) (_arg : U16) (s : State) : Result :=
  .next { s with returned := s.returned ++ [.caps (profile s.cfg s.model)] }

/-- `SET_VVANE_POS` (R197). -/
def execSetVvanePos (idx : Byte) (arg : U16) (s : State) : Result :=
  match vaneArg s.cfg s.model .vertical idx with
  | some v => .next (acceptWrite (.vane .vdir v) (clamp arg (steps s.cfg s.model .vertical)) s.snap s)
  | none => .next (reject 0x09 idx arg s)

/-- `SET_VVANE_SWING` (R198). -/
def execSetVvaneSwing (idx : Byte) (arg : U16) (s : State) : Result :=
  match vaneArg s.cfg s.model .vertical idx with
  | some v =>
    .next (acceptWrite (.vane .vswg v) (onOff (isOn arg))
      { s.snap with swing := swingOf (bankWrite s.regs (.vane .vswg v) (onOff (isOn arg))) } s)
  | none => .next (reject 0x0A idx arg s)

/-- `SET_HVANE_POS` (R199). -/
def execSetHvanePos (idx : Byte) (arg : U16) (s : State) : Result :=
  match vaneArg s.cfg s.model .horizontal idx with
  | some v => .next (acceptWrite (.vane .xhpos v) (clamp arg (steps s.cfg s.model .horizontal)) s.snap s)
  | none => .next (reject 0x0B idx arg s)

/-- `SET_HVANE_SWING` (R200). -/
def execSetHvaneSwing (idx : Byte) (arg : U16) (s : State) : Result :=
  match vaneArg s.cfg s.model .horizontal idx with
  | some v =>
    .next (acceptWrite (.vane .xhswg v) (onOff (isOn arg))
      { s.snap with swing := swingOf (bankWrite s.regs (.vane .xhswg v) (onOff (isOn arg))) } s)
  | none => .next (reject 0x0C idx arg s)

/-- `HOST.INVALID` (R188): an operation code above 0x0C is rejected. -/
def execHostInvalid (op idx : Byte) (arg : U16) (s : State) : Result := .next (reject op idx arg s)

end Sys2Proof.Machine
end

