-- ==== Sys2Proof/Machine/ObjectWrite.lean ====
section
/-! DEFINITION. The object writes WR.* (spec/43_object_writes.md), each one atomic section. -/

namespace Sys2Proof.Machine

/-- `WR.ONOFF` (R137). -/
def execWrOnoff (val : U16) (s : State) : Result := .next (writePlain .onoff val s)

/-- `WR.MODE` (R138). -/
def execWrMode (val : U16) (s : State) : Result := .next (writePlain .mode val s)

/-- `WR.SETPT` (R139). -/
def execWrSetpt (val : U16) (s : State) : Result := .next (writePlain .setpt val s)

/-- `WR.FAN` (R140). -/
def execWrFan (val : U16) (s : State) : Result := .next (writePlain .fan val s)

/-- `WR.VDIR_G` (R141). -/
def execWrVdirG (val : U16) (s : State) : Result := .next (writePlain .vdirG val s)

/-- `WR.VSWG_G` (R142). -/
def execWrVswgG (val : U16) (s : State) : Result := .next (writePlain .vswgG val s)

/-- `WR.HDIR_G` (R143). -/
def execWrHdirG (val : U16) (s : State) : Result := .next (writePlain .hdirG val s)

/-- `WR.HSWG_G` (R144). -/
def execWrHswgG (val : U16) (s : State) : Result := .next (writePlain .hswgG val s)

/-- `WR.ERR0` (R145). -/
def execWrErr0 (val : U16) (s : State) : Result := .next (writePlain .err0 val s)

/-- `WR.ERR1` (R146). -/
def execWrErr1 (val : U16) (s : State) : Result := .next (writePlain .err1 val s)

/-- `WR.ROOMT` (R147). -/
def execWrRoomt (val : U16) (s : State) : Result := .next (writePlain .roomt val s)

/-- `WR.ECON` (R148). -/
def execWrEcon (val : U16) (s : State) : Result := .next (writePlain .econ val s)

/-- `WR.VDIR[0]` (R149). -/
def execWrVdir0 (val : U16) (s : State) : Result := .next (writeVane .vdir 0 val s)

/-- `WR.VDIR[1]` (R149). -/
def execWrVdir1 (val : U16) (s : State) : Result := .next (writeVane .vdir 1 val s)

/-- `WR.VDIR[2]` (R149). -/
def execWrVdir2 (val : U16) (s : State) : Result := .next (writeVane .vdir 2 val s)

/-- `WR.VDIR[3]` (R149). -/
def execWrVdir3 (val : U16) (s : State) : Result := .next (writeVane .vdir 3 val s)

/-- `WR.VSWG[0]` (R150). -/
def execWrVswg0 (val : U16) (s : State) : Result := .next (writeVane .vswg 0 val s)

/-- `WR.VSWG[1]` (R150). -/
def execWrVswg1 (val : U16) (s : State) : Result := .next (writeVane .vswg 1 val s)

/-- `WR.VSWG[2]` (R150). -/
def execWrVswg2 (val : U16) (s : State) : Result := .next (writeVane .vswg 2 val s)

/-- `WR.VSWG[3]` (R150). -/
def execWrVswg3 (val : U16) (s : State) : Result := .next (writeVane .vswg 3 val s)

/-- `WR.XVPOS[0]` (R151). -/
def execWrXvpos0 (val : U16) (s : State) : Result := .next (writeVane .xvpos 0 val s)

/-- `WR.XVPOS[1]` (R151). -/
def execWrXvpos1 (val : U16) (s : State) : Result := .next (writeVane .xvpos 1 val s)

/-- `WR.XVPOS[2]` (R151). -/
def execWrXvpos2 (val : U16) (s : State) : Result := .next (writeVane .xvpos 2 val s)

/-- `WR.XVPOS[3]` (R151). -/
def execWrXvpos3 (val : U16) (s : State) : Result := .next (writeVane .xvpos 3 val s)

/-- `WR.XVSWG[0]` (R152). -/
def execWrXvswg0 (val : U16) (s : State) : Result := .next (writeVane .xvswg 0 val s)

/-- `WR.XVSWG[1]` (R152). -/
def execWrXvswg1 (val : U16) (s : State) : Result := .next (writeVane .xvswg 1 val s)

/-- `WR.XVSWG[2]` (R152). -/
def execWrXvswg2 (val : U16) (s : State) : Result := .next (writeVane .xvswg 2 val s)

/-- `WR.XVSWG[3]` (R152). -/
def execWrXvswg3 (val : U16) (s : State) : Result := .next (writeVane .xvswg 3 val s)

/-- `WR.XHPOS[0]` (R153). -/
def execWrXhpos0 (val : U16) (s : State) : Result := .next (writeVane .xhpos 0 val s)

/-- `WR.XHPOS[1]` (R153). -/
def execWrXhpos1 (val : U16) (s : State) : Result := .next (writeVane .xhpos 1 val s)

/-- `WR.XHPOS[2]` (R153). -/
def execWrXhpos2 (val : U16) (s : State) : Result := .next (writeVane .xhpos 2 val s)

/-- `WR.XHPOS[3]` (R153). -/
def execWrXhpos3 (val : U16) (s : State) : Result := .next (writeVane .xhpos 3 val s)

/-- `WR.XHSWG[0]` (R154). -/
def execWrXhswg0 (val : U16) (s : State) : Result := .next (writeVane .xhswg 0 val s)

/-- `WR.XHSWG[1]` (R154). -/
def execWrXhswg1 (val : U16) (s : State) : Result := .next (writeVane .xhswg 1 val s)

/-- `WR.XHSWG[2]` (R154). -/
def execWrXhswg2 (val : U16) (s : State) : Result := .next (writeVane .xhswg 2 val s)

/-- `WR.XHSWG[3]` (R154). -/
def execWrXhswg3 (val : U16) (s : State) : Result := .next (writeVane .xhswg 3 val s)

/-- `WR.UNKNOWN` (R155): an id outside OBJ is ignored with a diagnostic; an id of EXTRA_OBJ is a plain register (R136). -/
def execWrUnknown (id val : U16) (s : State) : Result := .next (writeOther id val s)

end Sys2Proof.Machine
end

