-- ==== Sys2Proof/Machine/Query.lean ====
section
/-! DEFINITION. The class/number points QRY.* (spec/44_capability.md R165 to R172): each adds its entry to the response in
progress (spec/42_dispatch.md R126) and changes nothing else. -/

namespace Sys2Proof.Machine

/-- `QRY.CAP01` (R168): CAPCONST at the point (0x01, 0x01). -/
def execQryCap01 (s : State) : Result := .next (answerPoint 0x01 0x01 (capPoint 0x01 s) s)

/-- `QRY.XVPOS[0]` (R169). -/
def execQryXvpos0 (s : State) : Result := .next (answerPoint 0x01 0x32 (vanePoint .xvpos 0 s) s)

/-- `QRY.XVPOS[1]` (R169). -/
def execQryXvpos1 (s : State) : Result := .next (answerPoint 0x01 0x33 (vanePoint .xvpos 1 s) s)

/-- `QRY.XVPOS[2]` (R169). -/
def execQryXvpos2 (s : State) : Result := .next (answerPoint 0x01 0x34 (vanePoint .xvpos 2 s) s)

/-- `QRY.XVPOS[3]` (R169). -/
def execQryXvpos3 (s : State) : Result := .next (answerPoint 0x01 0x35 (vanePoint .xvpos 3 s) s)

/-- `QRY.XHPOS[0]` (R169). -/
def execQryXhpos0 (s : State) : Result := .next (answerPoint 0x01 0x44 (vanePoint .xhpos 0 s) s)

/-- `QRY.XHPOS[1]` (R169). -/
def execQryXhpos1 (s : State) : Result := .next (answerPoint 0x01 0x45 (vanePoint .xhpos 1 s) s)

/-- `QRY.XHPOS[2]` (R169). -/
def execQryXhpos2 (s : State) : Result := .next (answerPoint 0x01 0x46 (vanePoint .xhpos 2 s) s)

/-- `QRY.XHPOS[3]` (R169). -/
def execQryXhpos3 (s : State) : Result := .next (answerPoint 0x01 0x47 (vanePoint .xhpos 3 s) s)

/-- `QRY.XHSWG[0]` (R169). -/
def execQryXhswg0 (s : State) : Result := .next (answerPoint 0x01 0x48 (vanePoint .xhswg 0 s) s)

/-- `QRY.XHSWG[1]` (R169). -/
def execQryXhswg1 (s : State) : Result := .next (answerPoint 0x01 0x49 (vanePoint .xhswg 1 s) s)

/-- `QRY.XHSWG[2]` (R169). -/
def execQryXhswg2 (s : State) : Result := .next (answerPoint 0x01 0x4A (vanePoint .xhswg 2 s) s)

/-- `QRY.XHSWG[3]` (R169). -/
def execQryXhswg3 (s : State) : Result := .next (answerPoint 0x01 0x4B (vanePoint .xhswg 3 s) s)

/-- `QRY.PROTO` (R166). -/
def execQryProto (num : Byte) (s : State) : Result := .next (answerPoint 0x00 num (protoPoint num s) s)

/-- `QRY.CAP` (R167). -/
def execQryCap (num : Byte) (s : State) : Result := .next (answerPoint 0x01 num (capPoint num s) s)

/-- `QRY.REG` (R170). -/
def execQryReg (num : Byte) (s : State) : Result := .next (answerPoint 0x10 num (regPoint 0x10 num s) s)

/-- `QRY.ECON` (R171). -/
def execQryEcon (num : Byte) (s : State) : Result := .next (answerPoint 0x11 num (regPoint 0x11 num s) s)

/-- `QRY.NONE` (R172): every other class answers the sentinel. -/
def execQryNone (cls num : Byte) (s : State) : Result := .next (answerPoint cls num sentinel s)

end Sys2Proof.Machine
end

