-- ==== Sys2Proof/Machine/Dispatch.lean ====
section
/-! DEFINITION. One arm per instruction. -/

namespace Sys2Proof.Machine

def exec (i : Instr) (s : State) : Host.Outcome State Fault Refusal :=
  match i with
  | .cmd0 addr payload => Sys2Proof.Machine.execCmd0 addr payload s
  | .cmd1 addr payload => Sys2Proof.Machine.execCmd1 addr payload s
  | .cmd2 addr payload => Sys2Proof.Machine.execCmd2 addr payload s
  | .cmd3Obj addr payload => Sys2Proof.Machine.execCmd3Obj addr payload s
  | .cmd3Cls addr payload => Sys2Proof.Machine.execCmd3Cls addr payload s
  | .wrOnoff val => Sys2Proof.Machine.execWrOnoff val s
  | .wrMode val => Sys2Proof.Machine.execWrMode val s
  | .wrSetpt val => Sys2Proof.Machine.execWrSetpt val s
  | .wrFan val => Sys2Proof.Machine.execWrFan val s
  | .wrVdirG val => Sys2Proof.Machine.execWrVdirG val s
  | .wrVswgG val => Sys2Proof.Machine.execWrVswgG val s
  | .wrHdirG val => Sys2Proof.Machine.execWrHdirG val s
  | .wrHswgG val => Sys2Proof.Machine.execWrHswgG val s
  | .wrErr0 val => Sys2Proof.Machine.execWrErr0 val s
  | .wrErr1 val => Sys2Proof.Machine.execWrErr1 val s
  | .wrRoomt val => Sys2Proof.Machine.execWrRoomt val s
  | .wrEcon val => Sys2Proof.Machine.execWrEcon val s
  | .wrVdir0 val => Sys2Proof.Machine.execWrVdir0 val s
  | .wrVdir1 val => Sys2Proof.Machine.execWrVdir1 val s
  | .wrVdir2 val => Sys2Proof.Machine.execWrVdir2 val s
  | .wrVdir3 val => Sys2Proof.Machine.execWrVdir3 val s
  | .wrVswg0 val => Sys2Proof.Machine.execWrVswg0 val s
  | .wrVswg1 val => Sys2Proof.Machine.execWrVswg1 val s
  | .wrVswg2 val => Sys2Proof.Machine.execWrVswg2 val s
  | .wrVswg3 val => Sys2Proof.Machine.execWrVswg3 val s
  | .wrXvpos0 val => Sys2Proof.Machine.execWrXvpos0 val s
  | .wrXvpos1 val => Sys2Proof.Machine.execWrXvpos1 val s
  | .wrXvpos2 val => Sys2Proof.Machine.execWrXvpos2 val s
  | .wrXvpos3 val => Sys2Proof.Machine.execWrXvpos3 val s
  | .wrXvswg0 val => Sys2Proof.Machine.execWrXvswg0 val s
  | .wrXvswg1 val => Sys2Proof.Machine.execWrXvswg1 val s
  | .wrXvswg2 val => Sys2Proof.Machine.execWrXvswg2 val s
  | .wrXvswg3 val => Sys2Proof.Machine.execWrXvswg3 val s
  | .wrXhpos0 val => Sys2Proof.Machine.execWrXhpos0 val s
  | .wrXhpos1 val => Sys2Proof.Machine.execWrXhpos1 val s
  | .wrXhpos2 val => Sys2Proof.Machine.execWrXhpos2 val s
  | .wrXhpos3 val => Sys2Proof.Machine.execWrXhpos3 val s
  | .wrXhswg0 val => Sys2Proof.Machine.execWrXhswg0 val s
  | .wrXhswg1 val => Sys2Proof.Machine.execWrXhswg1 val s
  | .wrXhswg2 val => Sys2Proof.Machine.execWrXhswg2 val s
  | .wrXhswg3 val => Sys2Proof.Machine.execWrXhswg3 val s
  | .wrUnknown id val => Sys2Proof.Machine.execWrUnknown id val s
  | .qryCap01 => Sys2Proof.Machine.execQryCap01 s
  | .qryXvpos0 => Sys2Proof.Machine.execQryXvpos0 s
  | .qryXvpos1 => Sys2Proof.Machine.execQryXvpos1 s
  | .qryXvpos2 => Sys2Proof.Machine.execQryXvpos2 s
  | .qryXvpos3 => Sys2Proof.Machine.execQryXvpos3 s
  | .qryXhpos0 => Sys2Proof.Machine.execQryXhpos0 s
  | .qryXhpos1 => Sys2Proof.Machine.execQryXhpos1 s
  | .qryXhpos2 => Sys2Proof.Machine.execQryXhpos2 s
  | .qryXhpos3 => Sys2Proof.Machine.execQryXhpos3 s
  | .qryXhswg0 => Sys2Proof.Machine.execQryXhswg0 s
  | .qryXhswg1 => Sys2Proof.Machine.execQryXhswg1 s
  | .qryXhswg2 => Sys2Proof.Machine.execQryXhswg2 s
  | .qryXhswg3 => Sys2Proof.Machine.execQryXhswg3 s
  | .qryProto num => Sys2Proof.Machine.execQryProto num s
  | .qryCap num => Sys2Proof.Machine.execQryCap num s
  | .qryReg num => Sys2Proof.Machine.execQryReg num s
  | .qryEcon num => Sys2Proof.Machine.execQryEcon num s
  | .qryNone cls num => Sys2Proof.Machine.execQryNone cls num s
  | .getState idx arg => Sys2Proof.Machine.execGetState idx arg s
  | .setPower idx arg => Sys2Proof.Machine.execSetPower idx arg s
  | .setMode idx arg => Sys2Proof.Machine.execSetMode idx arg s
  | .setTemp idx arg => Sys2Proof.Machine.execSetTemp idx arg s
  | .setFan idx arg => Sys2Proof.Machine.execSetFan idx arg s
  | .setSwing idx arg => Sys2Proof.Machine.execSetSwing idx arg s
  | .setRoomTemp idx arg => Sys2Proof.Machine.execSetRoomTemp idx arg s
  | .setModel idx arg => Sys2Proof.Machine.execSetModel idx arg s
  | .getCaps idx arg => Sys2Proof.Machine.execGetCaps idx arg s
  | .setVvanePos idx arg => Sys2Proof.Machine.execSetVvanePos idx arg s
  | .setVvaneSwing idx arg => Sys2Proof.Machine.execSetVvaneSwing idx arg s
  | .setHvanePos idx arg => Sys2Proof.Machine.execSetHvanePos idx arg s
  | .setHvaneSwing idx arg => Sys2Proof.Machine.execSetHvaneSwing idx arg s
  | .hostInvalid op idx arg => Sys2Proof.Machine.execHostInvalid op idx arg s

end Sys2Proof.Machine
end

