-- ==== Sys2Proof/Machine/Sync.lean ====
section
/-! DEFINITION. The frame synchronizer: PUSH, SCAN and what READ does with a scan (spec/41_frame_sync.md). -/

namespace Sys2Proof.Machine

/-- What the tests of one candidate decide (R104). -/
inductive Verdict
  /-- Rejected: the scan goes on at the next offset. -/
  | reject (c : Condition)
  /-- An incomplete candidate at offset 0: the scan stops. -/
  | stall (c : Condition)
  /-- Accepted: the frame and the bytes that follow it. -/
  | accept (f rest : List Byte)
deriving DecidableEq, Repr

/-- The idle pattern: the five header bytes are zero (R100). -/
def idleHeader (l : List Byte) : Bool :=
  l.getD 0 0 == 0 && l.getD 1 0 == 0 && l.getD 2 0 == 0 && l.getD 3 0 == 0 && l.getD 4 0 == 0

/-- The tests of the candidate at offset `i`, whose bytes and all that follow are `l`, in the order command, length
bound, availability, idle pattern, checksum (R104, R96 to R102). -/
def judge (i : Nat) (l : List Byte) : Verdict :=
  let n := l.getD 4 0
  if l.getD 0 0 ∉ cmdSet then .reject (.notACommand i)
  else if lenMax < n.toNat then .reject (.lengthTooLarge i n.toNat)
  else if l.length < expectedLen n then
    (if i = 0 then .stall (.partialFrame (expectedLen n) l.length) else .reject (.truncatedCandidate i))
  else if idleHeader l then .reject (.idlePattern i)
  else if verify (l.take (expectedLen n)) then .accept (l.take (expectedLen n)) (l.drop (expectedLen n))
  else .reject (.checksumMismatch i)

/-- How the loop over the candidates ends. -/
inductive ScanEnd
  | accepted (f rest : List Byte)
  | stalled
  | exhausted
deriving DecidableEq, Repr

/-- The loop of SCAN from offset `i` on (R94, R95), with the conditions raised in order; `l` is `BUF[i:n)`. -/
def scanFrom : Nat → List Byte → ScanEnd × List Condition
  | _, [] => (.exhausted, [])
  | i, b :: t =>
    if (b :: t).length < minFrame then (.exhausted, [])
    else
      match judge i (b :: t) with
      | .accept f rest => (.accepted f rest, [])
      | .stall c => (.stalled, [c])
      | .reject c => ((scanFrom (i + 1) t).1, c :: (scanFrom (i + 1) t).2)

/-- The result of a scan: its outcome, the frame found, the buffer it leaves, the conditions raised. -/
structure ScanResult where
  outcome : ScanOutcome
  frame : Option (List Byte)
  buf : List Byte
  conds : List Condition
deriving DecidableEq, Repr

/-- `SCAN()` (R94): a pure function of BUF. The overflow rule (R103) applies only when the loop ran to its end. -/
def scan (buf : List Byte) : ScanResult :=
  match scanFrom 0 buf with
  | (.accepted f rest, cs) => { outcome := .found, frame := some f, buf := rest, conds := cs }
  | (.stalled, cs) => { outcome := .partialFront, frame := none, buf := buf, conds := cs }
  | (.exhausted, cs) =>
    if bufCap < buf.length then
      { outcome := .noFrame, frame := none, buf := buf.drop bufDrop, conds := cs ++ [.bufferOverflow buf.length] }
    else { outcome := .noFrame, frame := none, buf := buf, conds := cs }

/-- `PUSH(c)` (R93), then the scan of the round comes next (R105). -/
def push (c : List Byte) (s : State) : State := { s with buf := s.buf ++ c, phase := .scanning }

/-- One SCAN by the protocol agent: FOUND ends the READ and goes to the dispatcher; PARTIAL and NONE go round again
(R105, R106). -/
def scanStep (s : State) : State :=
  let r := scan s.buf
  let t := { s with buf := r.buf, scans := s.scans ++ [r.outcome], diag := s.diag ++ r.conds }
  match r.frame with
  | some f => { t with phase := .dispatching f, reads := s.reads ++ [.frame f] }
  | none => { t with phase := .reading }

/-- TIMEOUT ends the READ in progress without a frame; BUF is kept and the agent reads again (R105, R106,
spec/60_exceptions.md R214). -/
def timeoutStep (s : State) : State := { s with reads := s.reads ++ [.timedOut] }

end Sys2Proof.Machine
end

