-- ==== Sys2Proof/Machine/Environment.lean ====
section
/-! DEFINITION. What a step does besides running an instruction: the protocol agent's own steps, the environment's events
(spec/60_exceptions.md R211 to R216), and the fetch of the next instruction word. -/

namespace Sys2Proof.Machine

/-- The protocol agent has a dispatch under way, which an event must let finish (spec/60_exceptions.md R214, R215). -/
def inDispatch : Phase → Bool
  | .reading => false
  | .scanning => false
  | .dispatching _ => true
  | .writing _ _ => true
  | .readingObjects _ _ => true
  | .readingPoints _ _ => true
  | .responding _ => false

/-- The event waits until the protocol agent has gone on: a chunk or TIMEOUT reaches it only inside READ, TRANSPORT_FAIL
only between its steps (R212, R214, R215). DESIGN CHOICE (notes/assumptions/8.md). RESET never waits: the spec does not say
what it does to a dispatch under way, and here it acts at once between two sections and the frame is abandoned.
DESIGN CHOICE (notes/assumptions/21.md). -/
def defers (e : Event) (s : State) : Bool :=
  s.link == .bound &&
    match e with
    | .chunk _ => s.phase != .reading
    | .timeout => s.phase != .reading
    | .transportFail => inDispatch s.phase
    | .agent => false
    | .host _ => false
    | .rebind => false
    | .reset _ => false
    | .txFail => false

/-- A chunk is within CHUNK_MAX (spec/41_frame_sync.md R93). -/
def chunkFits (c : Config) (chunk : List Byte) : Bool :=
  match c.chunkMax with
  | none => true
  | some n => chunk.length ≤ n

/-- The protocol agent's step where it runs no instruction: nothing while it waits in READ, a SCAN, one object-mode
read, the response built once the payload is used up, TX. -/
def agentStep (s : State) : State :=
  match s.phase with
  | .reading => s
  | .scanning => scanStep s
  | .dispatching _ => s
  | .writing a _ => respondWith 0x02 a [ackByte] s
  | .readingObjects a (p0 :: p1 :: _ :: _ :: rest) =>
    { readObject (be16 p0 p1) s with phase := .readingObjects a rest }
  | .readingObjects a _ => respondQuery a s
  | .readingPoints a _ => respondQuery a s
  | .responding r => transmit r s

/-- The protocol agent's turn, which is no step while LINK is UNBOUND (spec/10_state.md R32). -/
def agentTurn (s : State) : State := if s.link = .bound then agentStep s else s

/-- TX that the writer fails (spec/60_exceptions.md R205): the response is lost, nothing is rolled back. It happens only
at TX. -/
def txFailStep (s : State) : State :=
  match s.link, s.phase with
  | .bound, .responding r => raise .txFailed (transmit r s)
  | _, _ => s

/-- TRANSPORT_FAIL (R215): LINK is unbound, DeviceState and BUF stay. A response waiting for TX is lost (TxFailed). -/
def transportFailStep (s : State) : State :=
  let t :=
    match s.phase with
    | .responding _ => raise .txFailed s
    | _ => s
  { raise .transportDown t with link := .unbound, phase := .reading, entries := [] }

/-- REBIND (R216): possible only while UNBOUND; BUF is emptied and the agent starts reading. -/
def rebindStep (s : State) : State :=
  if s.link = .unbound then { s with link := .bound, buf := [], phase := .reading, entries := [] } else s

/-- RESET (spec/70_reset_and_hazards.md R227) with the MODEL_AT_RESET supplied for it (R229); an id that is not 1 to 3 is
not one the environment may supply (R230). The events still to come are the environment's and stay
(notes/assumptions/18.md). A dispatch under way is abandoned: its later sections and its response do not happen. DESIGN CHOICE
(notes/assumptions/21.md). -/
def resetStep (id : Nat) (s : State) : State :=
  if (modelOfId id).isSome then { State.resetWith { s.cfg with modelAtReset := id } with env := s.env } else s

/-- A chunk reaches READ only while BOUND and within CHUNK_MAX; any other is not delivered
(notes/assumptions/7.md). -/
def chunkStep (c : List Byte) (s : State) : State := if s.link = .bound ∧ chunkFits s.cfg c then push c s else s

/-- TIMEOUT reaches READ only while BOUND (R214). -/
def timeoutEvent (s : State) : State := if s.link = .bound then timeoutStep s else s

/-- One event, already taken off the list. A host operation word is run by `exec`, not here. -/
def eventStep (e : Event) (s : State) : State :=
  match e with
  | .agent => agentTurn s
  | .chunk c => chunkStep c s
  | .timeout => timeoutEvent s
  | .host _ => s
  | .transportFail => transportFailStep s
  | .rebind => rebindStep s
  | .reset id => resetStep id s
  | .txFail => txFailStep s

/-- What a step does when it runs no instruction. With no event left the protocol agent goes on by itself, and waits
when it has nothing to do. -/
def internalStep (s : State) : State :=
  match s.env with
  | [] => agentTurn s
  | e :: rest => if defers e s then agentTurn s else eventStep e { s with env := rest }

/-- The instruction word the protocol agent runs next, and the state with the cursor moved past it: the found frame, the
pair at the cursor, the class/number pair at the cursor. -/
def fetchAgent (s : State) : Option (Code × State) :=
  if s.link = .bound then
    match s.phase with
    | .dispatching f => some (.frame f, s)
    | .writing a (p0 :: p1 :: p2 :: p3 :: rest) => some (.pair (pairWord p0 p1 p2 p3), { s with phase := .writing a rest })
    | .readingPoints a (q0 :: q1 :: rest) => some (.clsnum (be16 q0 q1), { s with phase := .readingPoints a rest })
    | _ => none
  else none

/-- The instruction word the next step runs, and the state with that word (and its event) taken. -/
def fetch (s : State) : Option (Code × State) :=
  match s.env with
  | [] => fetchAgent s
  | e :: rest =>
    if defers e s then fetchAgent s
    else
      match e with
      | .agent => fetchAgent { s with env := rest }
      | .host w => some (.host w, { s with env := rest })
      | .chunk _ => none
      | .timeout => none
      | .transportFail => none
      | .rebind => none
      | .reset _ => none
      | .txFail => none

/-- The state in which the next step fetches and runs a word: a frame as the one SCAN has just found, a pair or
class/number pair as the rest of the payload of a CMD2 or CMD3 in progress, a host operation as the next event. It
stands for the load of a program from outside (notes/assumptions/11.md). -/
def placeCode (s : State) (c : Code) : State :=
  match c with
  | .frame f => { s with env := .agent :: s.env, link := .bound, phase := .dispatching f }
  | .pair w =>
    { s with
      env := .agent :: s.env
      link := .bound
      phase :=
        .writing { a1 := 0, a2 := 0, a3 := 0 }
          [w.extractLsb' 24 8, w.extractLsb' 16 8, w.extractLsb' 8 8, w.extractLsb' 0 8] }
  | .clsnum w =>
    { s with
      env := .agent :: s.env
      link := .bound
      phase := .readingPoints { a1 := 0, a2 := 0, a3 := 0 } [w.extractLsb' 8 8, w.extractLsb' 0 8] }
  | .host w => { s with env := .host w :: s.env }

end Sys2Proof.Machine
end

