-- ==== Sys2Proof/Machine/Step.lean ====
section
/-! DEFINITION. One step: the next instruction word fetched, decoded and run, or else the protocol agent's or the
environment's own step (spec/00_scope.md R5). -/

namespace Sys2Proof.Machine

/-- One step of the block. An ill-formed configuration is refused (spec/00_scope.md R8). -/
def step (s : State) : Host.Outcome State Fault Refusal :=
  if configWf s.cfg then
    match fetch s with
    | some (c, t) =>
      match decode c with
      | .ok i => exec i t
      | .error e => .refused (.undeliverable e)
    | none => .next (internalStep s)
  else .refused .illFormedConfig

/-- The state with an opcode-table word placed where the next step fetches it; a number of bits that no format has
changes nothing. -/
def State.withFetchWord (s : State) (nbits w : Nat) : State :=
  match tableCode nbits w with
  | some c => placeCode s c
  | none => s

end Sys2Proof.Machine
end

