-- ==== Sys2Proof/Safety.lean ====
section
/-! DEFINITION. What the claims speak of: the snapshot's consistency, the invariant of the block, what a register write
changes and what it leaves, and the per-vane rows as functions of the vane. -/

namespace Sys2Proof.Machine

/-- The consistency invariant of spec/10_state.md R24: the snapshot is a fixed point of R2S. -/
def Consistent (s : State) : Prop := s.snap = r2s s.model s.regs s.snap

/-- A frame the synchronizer may have found: it verifies and it decodes (spec/41_frame_sync.md R104, R112). -/
def deliverable (f : List Byte) : Bool := verify f && (decodeFrame f).isOk

/-- A response the block may have built: it verifies, its command is one of CMDSET, and it is at most 109 bytes long
(spec/42_dispatch.md R127, R131). -/
def responseOk (r : List Byte) : Bool := verify r && cmdSet.contains (r.getD 0 0) && r.length ≤ 109

/-- What holds of a dispatch between its sections: the frame found is deliverable, the payload left and the entries built
fit a frame of at most LEN_MAX payload bytes, the response verifies (spec/42_dispatch.md R127, R131). -/
def phaseOk (p : Phase) (entries : List Byte) : Bool :=
  match p with
  | .reading => entries.isEmpty
  | .scanning => entries.isEmpty
  | .dispatching f => deliverable f && entries.isEmpty
  | .writing _ rest => rest.length ≤ lenMax && entries.isEmpty
  | .readingObjects _ rest => entries.length + rest.length ≤ lenMax
  | .readingPoints _ rest => entries.length + 2 * rest.length ≤ 2 * lenMax
  | .responding r => responseOk r && entries.isEmpty

/-- The registers of EXTRA_OBJ are the only ones held beyond the registry (spec/10_state.md R17), in canonical form. -/
def extraOk (c : Config) (b : Bank) : Bool :=
  cellsWf b.extra && b.extra.all (fun e => c.extraObj.any (fun id => id.toNat == e.1))

/-- The invariant of the block: a well-formed configuration (spec/00_scope.md R8), a consistent snapshot (spec/10_state.md
R24) within its types (R22), registers only where OBJ has them (R17), no dispatch without a link (R32), a dispatch and
outputs that fit the protocol (spec/42_dispatch.md R127, R131). -/
def BlockInvariant (s : State) : Prop :=
  configWf s.cfg = true ∧ Consistent s ∧ snapshotOk s.snap = true ∧ extraOk s.cfg s.regs = true ∧
    (s.link = .unbound → s.phase = .reading) ∧ phaseOk s.phase s.entries = true ∧ s.tx.all responseOk = true

/-- Exactly one register has been written. -/
def StoresReg (o : Obj) (x : U16) (s t : State) : Prop :=
  bankRead t.regs o = x ∧ ∀ o', o' ≠ o → bankRead t.regs o' = bankRead s.regs o'

/-- Nothing but the registers and the snapshot has changed. -/
def OnlyDevice (s t : State) : Prop := t = { s with regs := t.regs, snap := t.snap }

/-- A wire write that stores a value in one register and recomputes the snapshot, and does nothing else. -/
def StoresAndResyncs (i : Instr) (o : Obj) (x : U16) (s : State) : Prop :=
  ∃ t, exec i s = .next t ∧ StoresReg o x s t ∧ OnlyDevice s t ∧ t.snap = r2s s.model t.regs s.snap

/-- A wire write that stores a value in one register and leaves a given snapshot, and does nothing else. -/
def StoresWithSnapshot (i : Instr) (o : Obj) (x : U16) (snap : Snapshot) (s : State) : Prop :=
  ∃ t, exec i s = .next t ∧ StoresReg o x s t ∧ OnlyDevice s t ∧ t.snap = snap

/-- A host operation that returns the snapshot it leaves and changes, beyond that, registers and snapshot alone. -/
def HostChanges (s t : State) : Prop :=
  t = { s with regs := t.regs, snap := t.snap, returned := s.returned ++ [.snapshot t.snap] }

/-- An accepted host setter that stores a value in one register, leaves a given snapshot and returns it, and does nothing
else (spec/45_state_sync.md R187). -/
def HostStores (i : Instr) (o : Obj) (x : U16) (snap : Snapshot) (s : State) : Prop :=
  ∃ t, exec i s = .next t ∧ StoresReg o x s t ∧ HostChanges s t ∧ t.snap = snap

/-- A rejected host operation (spec/45_state_sync.md R188). -/
def rejected (op idx : Byte) (arg : U16) (s : State) : Result :=
  .next { s with diag := s.diag ++ [.invalidRequest op idx arg], returned := s.returned ++ [.snapshot s.snap] }

/-- A wire write that is ignored with a diagnostic and changes nothing else (spec/43_object_writes.md R155, R156). -/
def ignored (c : Condition) (s : State) : Result := .next { s with diag := s.diag ++ [c] }

/-- A class/number point answered with a status: its entry is added to the response in progress and nothing else changes
(spec/30_encoding.md R72, spec/20_memory.md R45). -/
def answered (cls num : Byte) (st : U16) (s : State) : Result :=
  .next { s with entries := s.entries ++ [cls, num, hi8 st, lo8 st] }

/-- The swing flag once one register of SWINGSET holds a new value (spec/45_state_sync.md R181). -/
def swingAfter (o : Obj) (x : U16) (s : State) : Bool :=
  decide (x ≠ 0 ∨ ∃ a ∈ swingSet, a ≠ o ∧ bankRead s.regs a ≠ 0)

/-- A register of OBJ under a configuration (spec/10_state.md R17). -/
def Holds (c : Config) (o : Obj) : Prop := o ∈ registry ∨ ∃ id ∈ c.extraObj, o = .extra id

/-- The protocol agent has the turn, and `u` is the state with that turn taken: no event is left, the next event is the
agent's own, or the next event waits for the agent (notes/assumptions/5.md, 8.md). -/
def AgentTurn (s u : State) : Prop :=
  s.link = .bound ∧
    ((s.env = [] ∧ u = s) ∨ (∃ rest, s.env = .agent :: rest ∧ u = { s with env := rest }) ∨
      (∃ e rest, s.env = e :: rest ∧ defers e s = true ∧ u = s))

/-- The length byte of the candidate at an offset of the buffer. -/
def candLen (buf : List Byte) (i : Nat) : Nat := (buf.getD (i + 4) 0).toNat

/-- The bytes of the candidate at an offset of the buffer. -/
def candidate (buf : List Byte) (i : Nat) : List Byte := (buf.drop i).take (7 + candLen buf i)

/-- The candidate at an offset passes the tests of spec/41_frame_sync.md R104: a command of CMDSET, a length of at most 50,
every byte held, not all five header bytes zero, VERIFY true. -/
def Acceptable (buf : List Byte) (i : Nat) : Prop :=
  i + 7 ≤ buf.length ∧ (buf.getD i 0).toNat ≤ 3 ∧ candLen buf i ≤ 50 ∧ i + 7 + candLen buf i ≤ buf.length ∧
    ¬(∀ k < 5, buf.getD (i + k) 0 = 0) ∧ verify (candidate buf i) = true

/-- Offset 0 is a partial candidate (spec/41_frame_sync.md R99). -/
def FrontPartial (buf : List Byte) : Prop :=
  7 ≤ buf.length ∧ (buf.getD 0 0).toNat ≤ 3 ∧ candLen buf 0 ≤ 50 ∧ buf.length < 7 + candLen buf 0

/-- The per-vane write rows by group and vane. -/
def vaneWrite (g : VaneGroup) (v : Vane) (val : U16) : Instr :=
  match g, v with
  | .vdir, 0 => .wrVdir0 val
  | .vdir, 1 => .wrVdir1 val
  | .vdir, 2 => .wrVdir2 val
  | .vdir, 3 => .wrVdir3 val
  | .vswg, 0 => .wrVswg0 val
  | .vswg, 1 => .wrVswg1 val
  | .vswg, 2 => .wrVswg2 val
  | .vswg, 3 => .wrVswg3 val
  | .xvpos, 0 => .wrXvpos0 val
  | .xvpos, 1 => .wrXvpos1 val
  | .xvpos, 2 => .wrXvpos2 val
  | .xvpos, 3 => .wrXvpos3 val
  | .xvswg, 0 => .wrXvswg0 val
  | .xvswg, 1 => .wrXvswg1 val
  | .xvswg, 2 => .wrXvswg2 val
  | .xvswg, 3 => .wrXvswg3 val
  | .xhpos, 0 => .wrXhpos0 val
  | .xhpos, 1 => .wrXhpos1 val
  | .xhpos, 2 => .wrXhpos2 val
  | .xhpos, 3 => .wrXhpos3 val
  | .xhswg, 0 => .wrXhswg0 val
  | .xhswg, 1 => .wrXhswg1 val
  | .xhswg, 2 => .wrXhswg2 val
  | .xhswg, 3 => .wrXhswg3 val

/-- The twelve per-vane points of class 0x01: the row, its number, the register it reads (spec/44_capability.md R169). -/
def vanePoints : List (Instr × Byte × VaneGroup × Vane) :=
  [(.qryXvpos0, 0x32, .xvpos, 0), (.qryXvpos1, 0x33, .xvpos, 1), (.qryXvpos2, 0x34, .xvpos, 2),
    (.qryXvpos3, 0x35, .xvpos, 3), (.qryXhpos0, 0x44, .xhpos, 0), (.qryXhpos1, 0x45, .xhpos, 1),
    (.qryXhpos2, 0x46, .xhpos, 2), (.qryXhpos3, 0x47, .xhpos, 3), (.qryXhswg0, 0x48, .xhswg, 0),
    (.qryXhswg1, 0x49, .xhswg, 1), (.qryXhswg2, 0x4A, .xhswg, 2), (.qryXhswg3, 0x4B, .xhswg, 3)]

/-- A vertical vane is writable (spec/43_object_writes.md R149): vane 0 under every model, all four under VRF. -/
def VerticalWritable (m : Model) (v : Vane) : Prop := m = .vrf ∨ v = 0

/-- A horizontal vane is writable (spec/43_object_writes.md R153): none under Office, vane 0 under Horizontal, as
HSUP_VRF says under VRF. -/
def HorizontalWritable (c : Config) (m : Model) (v : Vane) : Prop :=
  (m = .horizontal ∧ v = 0) ∨ (m = .vrf ∧ vaneGet c.hsupVrf v = true)

/-- The states are the same but for what the block has put out and no rule reads back (spec/10_state.md R27,
spec/60_exceptions.md R219). -/
def SameButOutputs (s t : State) : Prop :=
  t = { s with tx := t.tx, persisted := t.persisted, returned := t.returned, reads := t.reads, scans := t.scans, diag := t.diag }

/-- `n` steps in a row; `none` when one of them stops. -/
def runSteps : Nat → State → Option State
  | 0, s => some s
  | n + 1, s =>
    match step s with
    | .next t => runSteps n t
    | .fault _ => none
    | .refused _ => none

end Sys2Proof.Machine
end

