-- ==== Sys2Proof/Certificates/Slice0/Obligations.lean ====
section
/-! DEFINITION. The statements for the provers, in the order of OBLIGATIONS.json. Each docstring names the rule of spec/ it
formalises, or says that it speaks of the model's own choice and names the log entry. -/

open Sys2Proof Sys2Proof.Machine

/-! ### Encoding -/

/-- Decoding the encoding of a well-formed instruction gives it back, for every instruction of every format and every operand
(spec/30_encoding.md R56, R65, R67, R78, R80). -/
def Obligations.DecodeEncodeRoundTrip : Prop :=
  ∀ i : Instr, i.wf = true → decode (encode i) = .ok i

/-- Every pair word, class/number word and host operation word is a well-formed instruction whose encoding is that word: no
word is rejected, no bit is dropped (spec/30_encoding.md R65, R67, R78, R80). -/
def Obligations.EveryWordIsOneInstruction : Prop :=
  (∀ w : BitVec 32, (decodePair w).wf = true ∧ encode (decodePair w) = .pair w) ∧
    (∀ w : BitVec 16, (decodeClsnum w).wf = true ∧ encode (decodeClsnum w) = .clsnum w) ∧
      ∀ w : BitVec 32, (decodeHost w).wf = true ∧ encode (decodeHost w) = .host w

/-- A frame that verifies, is as long as its length byte declares and decodes, decodes to a well-formed instruction whose
encoding is that frame, byte for byte (spec/30_encoding.md R56, R58; spec/40_checksum.md R84). -/
def Obligations.VerifiedFrameIsItsEncoding : Prop :=
  ∀ (f : List Byte) (i : Instr), verify f = true → f.length = 7 + (f.getD 4 0).toNat → decode (.frame f) = .ok i →
    i.wf = true ∧ encode i = .frame f

/-- Words written out from the spec's encodings decode to the instructions they stand for: one of each family
(spec/95_test_vectors.md S1 to S5, spec/opcode_table.json). -/
def Obligations.SampleWordsDecode : Prop :=
  decode (.frame [0x02, 0x00, 0x00, 0x00, 0x04, 0x10, 0x02, 0x00, 0xA0, 0xFF, 0x47])
      = .ok (.cmd2 ⟨0x00, 0x00, 0x00⟩ [0x10, 0x02, 0x00, 0xA0]) ∧
    decode (.frame [0x03, 0x00, 0x00, 0x00, 0x02, 0x01, 0x01, 0xFF, 0xF8]) = .ok (.cmd3Cls ⟨0x00, 0x00, 0x00⟩ [0x01, 0x01]) ∧
    decode (.frame [0x03, 0x00, 0x00, 0x00, 0x04, 0x10, 0x00, 0x00, 0x00, 0xFF, 0xE8])
      = .ok (.cmd3Obj ⟨0x00, 0x00, 0x00⟩ [0x10, 0x00, 0x00, 0x00]) ∧
    decode (.frame [0x00, 0x00, 0x00, 0x01, 0x00, 0xFF, 0xFE]) = .ok (.cmd0 ⟨0x00, 0x00, 0x01⟩ []) ∧
    decode (.pair 0x100200A0#32) = .ok (.wrSetpt 0x00A0) ∧ decode (.pair 0x10160009#32) = .ok (.wrVdir2 0x0009) ∧
    decode (.pair 0x20000001#32) = .ok (.wrUnknown 0x2000 0x0001) ∧ decode (.clsnum 0x0101#16) = .ok .qryCap01 ∧
    decode (.clsnum 0x0144#16) = .ok .qryXhpos0 ∧ decode (.clsnum 0x1002#16) = .ok (.qryReg 0x02) ∧
    decode (.host 0x030000B4#32) = .ok (.setTemp 0x00 0x00B4) ∧ decode (.host 0x09020000#32) = .ok (.setVvanePos 0x02 0x0000) ∧
    decode (.host 0x0D000000#32) = .ok (.hostInvalid 0x0D 0x00 0x0000)

/-- A step runs the instruction its word decodes to: a host operation word is the next event and is taken off; a found frame
stays in the agent's phase, which the command itself moves on; a pair or a class/number pair is taken off the payload still to
be done. The events and the phase are the model's own (notes/assumptions/5.md, 6.md). -/
def Obligations.StepRunsDecodedInstruction : Prop :=
  (∀ (s : State) (w : BitVec 32) (rest : List Event) (i : Instr), configWf s.cfg = true → s.env = .host w :: rest →
      decode (.host w) = .ok i → step s = exec i { s with env := rest }) ∧
    (∀ (s u : State) (f : List Byte) (i : Instr), configWf s.cfg = true → AgentTurn s u → s.phase = .dispatching f →
      decode (.frame f) = .ok i → step s = exec i u) ∧
    (∀ (s u : State) (a : Addr) (p0 p1 p2 p3 : Byte) (rest : List Byte) (i : Instr), configWf s.cfg = true → AgentTurn s u →
      s.phase = .writing a (p0 :: p1 :: p2 :: p3 :: rest) → decode (.pair (be16 p0 p1 ++ be16 p2 p3)) = .ok i →
      step s = exec i { u with phase := .writing a rest }) ∧
    ∀ (s u : State) (a : Addr) (q0 q1 : Byte) (rest : List Byte) (i : Instr), configWf s.cfg = true → AgentTurn s u →
      s.phase = .readingPoints a (q0 :: q1 :: rest) → decode (.clsnum (be16 q0 q1)) = .ok i →
      step s = exec i { u with phase := .readingPoints a rest }

/-! ### Commands -/

/-- A command whose payload is longer than LEN_MAX is refused, by the decoder and by each command's meaning, and nothing
changes (spec/42_dispatch.md R132). -/
def Obligations.DispatchRefusesLongPayload : Prop :=
  (∀ (c : Byte) (a : Addr) (n : Byte) (body : List Byte), 50 < n.toNat →
      decode (.frame ([c] ++ addrBytes a ++ [n] ++ body)) = .error .lengthTooLarge) ∧
    ∀ (a : Addr) (p : List Byte) (s : State), 50 < p.length →
      exec (.cmd0 a p) s = .refused .payloadTooLong ∧ exec (.cmd1 a p) s = .refused .payloadTooLong ∧
        exec (.cmd2 a p) s = .refused .payloadTooLong ∧ exec (.cmd3Obj a p) s = .refused .payloadTooLong ∧
          exec (.cmd3Cls a p) s = .refused .payloadTooLong

/-- CMD0 and CMD1 build the echo response when the parameter HS0 or HS1 signals one for the payload, else the bare ACK, with
the request's command and address, and change nothing else (spec/42_dispatch.md R118, R119, R120). That the response is held
in the agent's phase until TX is the model's choice (notes/assumptions/6.md). -/
def Obligations.HandshakeResponds : Prop :=
  ∀ (a : Addr) (p : List Byte) (s : State), p.length ≤ 50 →
    (match s.cfg.hs0.lookup p with
      | some e =>
        exec (.cmd0 a p) s = .next { s with
          phase := .responding (sealFrame [0x00, a.a1, a.a2, a.a3, 0x04, e.e0, e.e1, e.s0, e.s1]), entries := [] }
      | none =>
        exec (.cmd0 a p) s = .next { s with
          phase := .responding (sealFrame [0x00, a.a1, a.a2, a.a3, 0x01, 0x01]), entries := [] }) ∧
      match s.cfg.hs1.lookup p with
      | some e =>
        exec (.cmd1 a p) s = .next { s with
          phase := .responding (sealFrame [0x01, a.a1, a.a2, a.a3, 0x04, e.e0, e.e1, e.s0, e.s1]), entries := [] }
      | none =>
        exec (.cmd1 a p) s = .next { s with
          phase := .responding (sealFrame [0x01, a.a1, a.a2, a.a3, 0x01, 0x01]), entries := [] }

/-- CMD2 and CMD3 of at most LEN_MAX payload bytes complete: under ATOMIC_UNIT = PAIR they begin their sequence of sections and
touch no device state, under FRAME they run to the built response at once. The response of a CMD3 is written out: command 0x03,
the request's address, the body's length, then the body, which is 0x01, the byte L = (len(entries) + CMD3_L_BIAS) mod 256 and the
entries (spec/42_dispatch.md R121, R123, R125, R128, spec/30_encoding.md R73). The phase is the model's own
(notes/assumptions/6.md). -/
def Obligations.CommandsBeginOrRun : Prop :=
  ∀ (a : Addr) (p : List Byte) (s : State), p.length ≤ 50 →
    (s.cfg.atomicUnit = .pair →
      exec (.cmd2 a p) s = .next { s with phase := .writing a p, entries := [] } ∧
        exec (.cmd3Obj a p) s = .next { s with phase := .readingObjects a p, entries := [] } ∧
          exec (.cmd3Cls a p) s = .next { s with phase := .readingPoints a p, entries := [] }) ∧
      (s.cfg.atomicUnit = .frame →
        exec (.cmd2 a p) s = .next { writePairs p s with
            phase := .responding (sealFrame [0x02, a.a1, a.a2, a.a3, 0x01, 0x01]), entries := [] } ∧
          (∀ es, es = (readObjects p { s with entries := [] }).entries →
            exec (.cmd3Obj a p) s = .next { readObjects p { s with entries := [] } with
              phase := .responding (sealFrame ([0x03, a.a1, a.a2, a.a3, BitVec.ofNat 8 (2 + es.length),
                0x01, BitVec.ofNat 8 (es.length + s.cfg.cmd3LBias)] ++ es)), entries := [] }) ∧
            ∀ es, es = (readPoints p { s with entries := [] }).entries →
              exec (.cmd3Cls a p) s = .next { readPoints p { s with entries := [] } with
                phase := .responding (sealFrame ([0x03, a.a1, a.a2, a.a3, BitVec.ofNat 8 (2 + es.length),
                  0x01, BitVec.ofNat 8 (es.length + s.cfg.cmd3LBias)] ++ es)), entries := [] })

/-- A CMD2 or CMD3 under ATOMIC_UNIT = PAIR into which no other section falls takes one step for each pair or entry, a CMD2 running
the pairs' own instructions and a CMD3 in class/number mode the points' own, and ends in the state that the command under FRAME
reaches at once (spec/20_memory.md R49, spec/42_dispatch.md R121, R124, R126, R128). The number of steps, one for each section and
one for the response, and the empty list of events are the model's own (notes/assumptions/5.md, 6.md, 15.md). -/
def Obligations.PairRunEqualsFrameRun : Prop :=
  ∀ (a : Addr) (p : List Byte) (s t : State), configWf s.cfg = true → s.cfg.atomicUnit = .pair → s.link = .bound → s.env = [] →
    (exec (.cmd2 a p) { s with cfg := { s.cfg with atomicUnit := .frame } } = .next t →
      ∃ u, exec (.cmd2 a p) s = .next u ∧ runSteps (p.length / 4 + 1) u = some { t with cfg := s.cfg }) ∧
      (exec (.cmd3Obj a p) { s with cfg := { s.cfg with atomicUnit := .frame } } = .next t →
        ∃ u, exec (.cmd3Obj a p) s = .next u ∧ runSteps (p.length / 4 + 1) u = some { t with cfg := s.cfg }) ∧
      (exec (.cmd3Cls a p) { s with cfg := { s.cfg with atomicUnit := .frame } } = .next t →
        ∃ u, exec (.cmd3Cls a p) s = .next u ∧ runSteps (p.length / 2 + 1) u = some { t with cfg := s.cfg })

/-- A CMD2 frame delivered whole to an agent that waits with an empty buffer is found, dispatched, applied pair by pair and
answered by exactly one response, the bare ACK with the request's address, and the buffer is empty again
(spec/41_frame_sync.md R93, R101, spec/42_dispatch.md R115, R121, R129). It speaks of ATOMIC_UNIT = PAIR. The number of steps and
the list of events that holds the one chunk are the model's own (notes/assumptions/5.md, 6.md, 15.md). -/
def Obligations.ObjectWriteFrameAnswered : Prop :=
  ∀ (a : Addr) (p : List Byte) (s : State), configWf s.cfg = true → s.cfg.atomicUnit = .pair → s.link = .bound →
    s.phase = .reading → s.buf = [] → s.entries = [] → p.length ≤ 50 →
    s.env = [.chunk (frameBytes 0x02 a p)] → chunkFits s.cfg (frameBytes 0x02 a p) = true →
    runSteps (p.length / 4 + 5) s = some { writePairs p s with
      env := []
      tx := s.tx ++ [sealFrame [0x02, a.a1, a.a2, a.a3, 0x01, 0x01]]
      scans := s.scans ++ [.found]
      reads := s.reads ++ [.frame (frameBytes 0x02 a p)] }

/-- The pairs of a CMD2 payload take effect one after the other, each complete before the next; so do the entries of a CMD3
payload. SETPT written 200 and then 999 in one frame leaves 999 in the register and 200 in the snapshot. The bytes left over after
the last whole pair do nothing and raise nothing (spec/42_dispatch.md R122, spec/20_memory.md R43). -/
def Obligations.PairsTakeEffectInOrder : Prop :=
  (∀ (p q : List Byte) (s : State), p.length % 4 = 0 →
      writePairs (p ++ q) s = writePairs q (writePairs p s) ∧ readObjects (p ++ q) s = readObjects q (readObjects p s)) ∧
    (∀ (p q : List Byte) (s : State), p.length % 2 = 0 → readPoints (p ++ q) s = readPoints q (readPoints p s)) ∧
    (∀ s : State, (writePairs [0x10, 0x02, 0x00, 0xC8, 0x10, 0x02, 0x03, 0xE7] s).regs.setpt = 999 ∧
      (writePairs [0x10, 0x02, 0x00, 0xC8, 0x10, 0x02, 0x03, 0xE7] s).snap.setpoint = 200) ∧
    (∀ (q : List Byte) (s : State), q.length < 4 → writePairs q s = s ∧ readObjects q s = s) ∧
    ∀ (q : List Byte) (s : State), q.length < 2 → readPoints q s = s

/-- The sizes of a CMD3 response: in object mode the entries are as long as the payload, in class/number mode four bytes for
each pair; the body adds two bytes and the frame nine, at most 109 in all (spec/42_dispatch.md R127). -/
def Obligations.QueryResponseSizes : Prop :=
  (∀ (p : List Byte) (s : State), p.length % 4 = 0 → (readObjects p { s with entries := [] }).entries.length = p.length) ∧
    (∀ (p : List Byte) (s : State), (readPoints p { s with entries := [] }).entries.length = 4 * (p.length / 2)) ∧
      (∀ (c : Config) (a : Addr) (es : List Byte),
        (queryBody c es).length = 2 + es.length ∧ (response 0x03 a (queryBody c es)).length = 9 + es.length) ∧
        ∀ (a : Addr) (p : List Byte) (s : State), p.length ≤ 50 →
          (response 0x03 a (queryBody s.cfg (readPoints p { s with entries := [] }).entries)).length ≤ 109 ∧
            (response 0x03 a (queryBody s.cfg (readObjects p { s with entries := [] }).entries)).length ≤ 109

/-! ### Object writes -/

/-- A write to a register that is not per-vane, the registers of EXTRA_OBJ among them, stores the value whatever it is,
recomputes the snapshot and does nothing else (spec/43_object_writes.md R136). -/
def Obligations.PlainWritesStore : Prop :=
  ∀ (val : U16) (s : State),
    StoresAndResyncs (.wrOnoff val) .onoff val s ∧ StoresAndResyncs (.wrMode val) .mode val s ∧
      StoresAndResyncs (.wrSetpt val) .setpt val s ∧ StoresAndResyncs (.wrFan val) .fan val s ∧
      StoresAndResyncs (.wrVdirG val) .vdirG val s ∧ StoresAndResyncs (.wrVswgG val) .vswgG val s ∧
      StoresAndResyncs (.wrHdirG val) .hdirG val s ∧ StoresAndResyncs (.wrHswgG val) .hswgG val s ∧
      StoresAndResyncs (.wrErr0 val) .err0 val s ∧ StoresAndResyncs (.wrErr1 val) .err1 val s ∧
      StoresAndResyncs (.wrRoomt val) .roomt val s ∧ StoresAndResyncs (.wrEcon val) .econ val s ∧
      ∀ id ∈ s.cfg.extraObj, StoresAndResyncs (.wrUnknown id val) (.extra id) val s

/-- WR.ONOFF: the register takes the value, power is on for every value but 0, nothing else changes
(spec/43_object_writes.md R137). The premise is the invariant of spec/10_state.md R24. -/
def Obligations.PowerWrite : Prop :=
  ∀ (val : U16) (s : State), Consistent s →
    StoresWithSnapshot (.wrOnoff val) .onoff val { s.snap with power := decide (val ≠ 0) } s

/-- WR.MODE and WR.FAN: the register takes the value; the mode follows the codes 0 to 4 and the fan speed the codes 0, 2, 5, 8
and 11, and each stays for every other value; nothing else changes (spec/43_object_writes.md R138, R140). -/
def Obligations.ModeAndFanWrites : Prop :=
  ∀ (val : U16) (s : State), Consistent s →
    StoresWithSnapshot (.wrMode val) .mode val
        { s.snap with
          mode :=
            if val = 0 then .auto else if val = 1 then .cool else if val = 2 then .dry else if val = 3 then .fan
            else if val = 4 then .heat else s.snap.mode }
        s ∧
      StoresWithSnapshot (.wrFan val) .fan val
        { s.snap with
          fan :=
            if val = 0 then .auto else if val = 2 then .quiet else if val = 5 then .low else if val = 8 then .medium
            else if val = 11 then .high else s.snap.fan }
        s

/-- WR.SETPT and WR.ROOMT: the register takes the value; the setpoint takes it exactly when it lies in 160 to 300, in every mode;
the room temperature becomes the value less 5000 exactly when it is at most 13000; nothing else changes
(spec/43_object_writes.md R139, R147). -/
def Obligations.TemperatureWrites : Prop :=
  ∀ (val : U16) (s : State), Consistent s →
    StoresWithSnapshot (.wrSetpt val) .setpt val
        { s.snap with setpoint := if 160 ≤ val.toNat ∧ val.toNat ≤ 300 then val.toNat else s.snap.setpoint } s ∧
      StoresWithSnapshot (.wrRoomt val) .roomt val
        { s.snap with room := if val.toNat ≤ 13000 then (val.toNat : Int) - 5000 else s.snap.room } s

/-- WR.VSWG_G and WR.HSWG_G: the register takes the value, swing becomes the OR over SWINGSET, nothing else changes, whatever
the model's swing support (spec/43_object_writes.md R142, R144). -/
def Obligations.GlobalSwingWrites : Prop :=
  ∀ (val : U16) (s : State), Consistent s →
    StoresWithSnapshot (.wrVswgG val) .vswgG val { s.snap with swing := swingAfter .vswgG val s } s ∧
      StoresWithSnapshot (.wrHswgG val) .hswgG val { s.snap with swing := swingAfter .hswgG val s } s

/-- WR.VDIR_G, WR.HDIR_G, WR.ERR0, WR.ERR1 and WR.ECON: the register takes the value as received and no snapshot field
changes (spec/43_object_writes.md R141, R143, R145, R146, R148). -/
def Obligations.SilentWrites : Prop :=
  ∀ (val : U16) (s : State), Consistent s →
    StoresWithSnapshot (.wrVdirG val) .vdirG val s.snap s ∧ StoresWithSnapshot (.wrHdirG val) .hdirG val s.snap s ∧
      StoresWithSnapshot (.wrErr0 val) .err0 val s.snap s ∧ StoresWithSnapshot (.wrErr1 val) .err1 val s.snap s ∧
        StoresWithSnapshot (.wrEcon val) .econ val s.snap s

/-- WR.VDIR[v] and WR.XVPOS[v]: under a model that supports vertical vane v the position stored is the value clamped to 1 up to
VSTEPS, in a cell of its own that, for WR.XVPOS[v], the point (0x01, 0x32 + v) then reads; otherwise the write is ignored with
VaneUnsupported. Vane 0 is writable under every model, the others under VRF (spec/43_object_writes.md R149, R151). -/
def Obligations.VerticalPositionWrites : Prop :=
  ∀ (v : Vane) (val : U16) (s : State), configWf s.cfg = true → Consistent s →
    (VerticalWritable s.model v →
      ∃ x : U16, x.toNat = min (max val.toNat 1) (perModel s.cfg.vSteps s.model).toNat ∧
        StoresWithSnapshot (vaneWrite .vdir v val) (.vane .vdir v) x s.snap s ∧
        StoresWithSnapshot (vaneWrite .xvpos v val) (.vane .xvpos v) x s.snap s ∧
        ∀ t, exec (vaneWrite .xvpos v val) s = .next t → status 0x01 (BitVec.ofNat 8 (0x32 + vaneIndex v)) t = x) ∧
      (¬VerticalWritable s.model v →
        exec (vaneWrite .vdir v val) s = ignored (.vaneUnsupported (BitVec.ofNat 16 (0x1012 + 2 * vaneIndex v))) s ∧
          exec (vaneWrite .xvpos v val) s = ignored (.vaneUnsupported (BitVec.ofNat 16 (0x0132 + vaneIndex v))) s)

/-- WR.XHPOS[v]: under a model that supports horizontal vane v the position stored is the value clamped to 1 up to HSTEPS;
otherwise the write is ignored with VaneUnsupported. None is writable under Office, vane 0 under Horizontal, those of HSUP_VRF
under VRF (spec/43_object_writes.md R153). -/
def Obligations.HorizontalPositionWrites : Prop :=
  ∀ (v : Vane) (val : U16) (s : State), configWf s.cfg = true → Consistent s →
    (HorizontalWritable s.cfg s.model v →
      ∃ x : U16, x.toNat = min (max val.toNat 1) (perModel s.cfg.hSteps s.model).toNat ∧
        StoresWithSnapshot (vaneWrite .xhpos v val) (.vane .xhpos v) x s.snap s) ∧
      (¬HorizontalWritable s.cfg s.model v →
        exec (vaneWrite .xhpos v val) s = ignored (.vaneUnsupported (BitVec.ofNat 16 (0x0144 + vaneIndex v))) s)

/-- WR.VSWG[v], WR.XVSWG[v] and WR.XHSWG[v]: where the vane is supported the value is stored as received and swing becomes the OR
over SWINGSET; otherwise the write is ignored with VaneUnsupported (spec/43_object_writes.md R150, R152, R154). -/
def Obligations.VaneSwingWrites : Prop :=
  ∀ (v : Vane) (val : U16) (s : State), Consistent s →
    (VerticalWritable s.model v →
      StoresWithSnapshot (vaneWrite .vswg v val) (.vane .vswg v) val
          { s.snap with swing := swingAfter (.vane .vswg v) val s } s ∧
        StoresWithSnapshot (vaneWrite .xvswg v val) (.vane .xvswg v) val
          { s.snap with swing := swingAfter (.vane .xvswg v) val s } s) ∧
      (¬VerticalWritable s.model v →
        exec (vaneWrite .vswg v val) s = ignored (.vaneUnsupported (BitVec.ofNat 16 (0x1013 + 2 * vaneIndex v))) s ∧
          exec (vaneWrite .xvswg v val) s = ignored (.vaneUnsupported (BitVec.ofNat 16 (0x103A + vaneIndex v))) s) ∧
      (HorizontalWritable s.cfg s.model v →
        StoresWithSnapshot (vaneWrite .xhswg v val) (.vane .xhswg v) val
          { s.snap with swing := swingAfter (.vane .xhswg v) val s } s) ∧
      (¬HorizontalWritable s.cfg s.model v →
        exec (vaneWrite .xhswg v val) s = ignored (.vaneUnsupported (BitVec.ofNat 16 (0x0148 + vaneIndex v))) s)

/-- WR.UNKNOWN on an id outside OBJ: no register is written, the snapshot stays, UnknownObject is raised, the pairs that follow
are processed as usual and the frame is acknowledged (spec/43_object_writes.md R155, R156). -/
def Obligations.UnknownWriteIgnored : Prop :=
  ∀ (id val : U16) (s : State), id ∉ registryIds → id ∉ s.cfg.extraObj →
    exec (.wrUnknown id val) s = ignored (.unknownObject id) s ∧
      (∀ q : List Byte, writePairs ([hi8 id, lo8 id, hi8 val, lo8 val] ++ q) s
        = writePairs q { s with diag := s.diag ++ [.unknownObject id] }) ∧
      (s.cfg.atomicUnit = .frame → ∀ a : Addr,
        exec (.cmd2 a [hi8 id, lo8 id, hi8 val, lo8 val]) s = .next { s with
          diag := s.diag ++ [.unknownObject id]
          phase := .responding (sealFrame [0x02, a.a1, a.a2, a.a3, 0x01, 0x01])
          entries := [] })

/-- WRITE_OBJ as the common rule has it, whatever the id: the row that the pair decodes to does exactly this
(spec/43_object_writes.md R135). -/
def Obligations.WriteRowsFollowCommonRule : Prop :=
  ∀ (id val : U16) (s : State),
    exec (decodeObject id val) s =
      match objFind s.cfg.extraObj id with
      | none => ignored (.unknownObject id) s
      | some (.vane g v) =>
        if sup s.cfg s.model g.axis v then
          .next (resync (setReg (.vane g v)
            (match g.kind with
              | .position => clamp val (steps s.cfg s.model g.axis)
              | .swing => val) s))
        else ignored (.vaneUnsupported id) s
      | some o => .next (resync (setReg o val s))

/-! ### Class/number points -/

/-- STATUS as the rule has it, whatever the class and the number: the row that the point decodes to answers exactly this, as one
entry of the response in progress, and changes nothing else (spec/44_capability.md R165). -/
def Obligations.QueryRowsFollowStatus : Prop :=
  ∀ (cls num : Byte) (s : State),
    exec (decodePoint cls num) s =
      answered cls num
        (if cls = 0x00 then (s.cfg.protoInfo.lookup num).getD 0xFFFF
          else if cls = 0x01 then
            match registryFind (be16 0x01 num) with
            | some (.vane g v) => if sup s.cfg s.model g.axis v then bankRead s.regs (.vane g v) else 0xFFFF
            | _ => (s.cfg.capConst.lookup (s.model, num)).getD 0xFFFF
          else if cls = 0x10 ∨ cls = 0x11 then
            match objFind s.cfg.extraObj (be16 cls num) with
            | some o => bankRead s.regs o
            | none => 0xFFFF
          else 0xFFFF)
        s

/-- QRY.PROTO, QRY.CAP01, QRY.CAP and QRY.NONE answer the parameter or the sentinel and change nothing else
(spec/44_capability.md R166, R167, R172). -/
def Obligations.OpenPointQueries : Prop :=
  ∀ (cls num : Byte) (s : State),
    exec (.qryProto num) s = answered 0x00 num ((s.cfg.protoInfo.lookup num).getD 0xFFFF) s ∧
      exec .qryCap01 s = answered 0x01 0x01 ((s.cfg.capConst.lookup (s.model, 0x01)).getD 0xFFFF) s ∧
      exec (.qryCap num) s = answered 0x01 num ((s.cfg.capConst.lookup (s.model, num)).getD 0xFFFF) s ∧
      exec (.qryNone cls num) s = answered cls num 0xFFFF s

/-- The two fixed points: under every well-formed configuration (0x01, 0x01) answers 4 under VRF and 0 under Office
(spec/44_capability.md R168). -/
def Obligations.FixedPoints : Prop :=
  ∀ s : State, configWf s.cfg = true →
    (s.model = .vrf → exec .qryCap01 s = answered 0x01 0x01 0x0004 s) ∧
      (s.model = .office → exec .qryCap01 s = answered 0x01 0x01 0x0000 s)

/-- The twelve per-vane points: a supported vane answers its cell, an unsupported one the sentinel
(spec/44_capability.md R169). -/
def Obligations.VanePointQueries : Prop :=
  ∀ e ∈ vanePoints, ∀ s : State,
    objId (.vane e.2.2.1 e.2.2.2) = be16 0x01 e.2.1 ∧
      exec e.1 s =
        answered 0x01 e.2.1
          (if sup s.cfg s.model e.2.2.1.axis e.2.2.2 then bankRead s.regs (.vane e.2.2.1 e.2.2.2) else 0xFFFF) s

/-- QRY.REG and QRY.ECON answer the register of OBJ whose id is the class and the number, whether or not the model supports the
vane, and the sentinel when there is none (spec/44_capability.md R170, R171). -/
def Obligations.ReadbackQueries : Prop :=
  ∀ (num : Byte) (s : State), configWf s.cfg = true →
    (∀ o, Holds s.cfg o → objId o = be16 0x10 num → exec (.qryReg num) s = answered 0x10 num (bankRead s.regs o) s) ∧
      ((∀ o, Holds s.cfg o → objId o ≠ be16 0x10 num) → exec (.qryReg num) s = answered 0x10 num 0xFFFF s) ∧
      exec (.qryEcon 0x00) s = answered 0x11 0x00 s.regs.econ s ∧
      (∀ o, Holds s.cfg o → objId o = be16 0x11 num → exec (.qryEcon num) s = answered 0x11 num (bankRead s.regs o) s) ∧
      ((∀ o, Holds s.cfg o → objId o ≠ be16 0x11 num) → exec (.qryEcon num) s = answered 0x11 num 0xFFFF s)

/-! ### Host operations -/

/-- GET_STATE returns the snapshot and GET_CAPS the static capability fields of the active model; neither changes anything
(spec/45_state_sync.md R201, R202). -/
def Obligations.HostGetters : Prop :=
  ∀ (idx : Byte) (arg : U16) (s : State),
    exec (.getState idx arg) s = .next { s with returned := s.returned ++ [.snapshot s.snap] } ∧
      exec (.getCaps idx arg) s = .next { s with
        returned := s.returned ++ [.caps
          { sysType := perModel s.cfg.sysType s.model
            vSteps := perModel s.cfg.vSteps s.model
            vSwingOk := perModel s.cfg.vSwingOk s.model
            hSteps := perModel s.cfg.hSteps s.model
            hSwingOk := perModel s.cfg.hSwingOk s.model
            vSup := #v[vsup s.model 0, vsup s.model 1, vsup s.model 2, vsup s.model 3]
            hSup := #v[hsup s.cfg s.model 0, hsup s.cfg s.model 1, hsup s.cfg s.model 2, hsup s.cfg s.model 3] }] }

/-- SET_POWER: always accepted; the register becomes 1 or 0 and power follows (spec/45_state_sync.md R189). -/
def Obligations.SetPower : Prop :=
  ∀ (idx : Byte) (arg : U16) (s : State),
    HostStores (.setPower idx arg) .onoff (if arg = 0 then 0 else 1) { s.snap with power := decide (arg ≠ 0) } s

/-- SET_MODE is accepted for the codes 0 to 4 and SET_FAN for the codes 0, 2, 5, 8 and 11: the register takes the code and the
snapshot field its name; every other code is rejected (spec/45_state_sync.md R190, R191). -/
def Obligations.SetModeAndFan : Prop :=
  ∀ (idx : Byte) (arg : U16) (s : State),
    (match arg.toNat with
      | 0 => HostStores (.setMode idx arg) .mode arg { s.snap with mode := .auto } s
      | 1 => HostStores (.setMode idx arg) .mode arg { s.snap with mode := .cool } s
      | 2 => HostStores (.setMode idx arg) .mode arg { s.snap with mode := .dry } s
      | 3 => HostStores (.setMode idx arg) .mode arg { s.snap with mode := .fan } s
      | 4 => HostStores (.setMode idx arg) .mode arg { s.snap with mode := .heat } s
      | _ => exec (.setMode idx arg) s = rejected 0x02 idx arg s) ∧
      match arg.toNat with
      | 0 => HostStores (.setFan idx arg) .fan arg { s.snap with fan := .auto } s
      | 2 => HostStores (.setFan idx arg) .fan arg { s.snap with fan := .quiet } s
      | 5 => HostStores (.setFan idx arg) .fan arg { s.snap with fan := .low } s
      | 8 => HostStores (.setFan idx arg) .fan arg { s.snap with fan := .medium } s
      | 11 => HostStores (.setFan idx arg) .fan arg { s.snap with fan := .high } s
      | _ => exec (.setFan idx arg) s = rejected 0x04 idx arg s

/-- SET_TEMP: accepted from 180 to 300 when the snapshot's mode is Cool and from 160 to 300 in every other mode; rejected
otherwise (spec/45_state_sync.md R192). -/
def Obligations.SetTemp : Prop :=
  ∀ (idx : Byte) (arg : U16) (s : State),
    if (if s.snap.mode = .cool then 180 else 160) ≤ arg.toNat ∧ arg.toNat ≤ 300 then
      HostStores (.setTemp idx arg) .setpt arg { s.snap with setpoint := arg.toNat } s
    else exec (.setTemp idx arg) s = rejected 0x03 idx arg s

/-- SET_SWING: on sets VSWG_G to 1 and swing; off clears the 14 registers of SWINGSET and swing; always accepted
(spec/45_state_sync.md R193). -/
def Obligations.SetSwing : Prop :=
  ∀ (idx : Byte) (arg : U16) (s : State),
    (arg ≠ 0 → HostStores (.setSwing idx arg) .vswgG 1 { s.snap with swing := true } s) ∧
      (arg = 0 →
        ∃ t, exec (.setSwing idx arg) s = .next t ∧
          (∀ o, bankRead t.regs o = if o ∈ swingSet then 0 else bankRead s.regs o) ∧
          HostChanges s t ∧ t.snap = { s.snap with swing := false })

/-- SET_ROOMTEMP: the argument is a signed number of hundredths; accepted from -5000 to 8000, where the register becomes the
temperature plus 5000; rejected otherwise (spec/45_state_sync.md R194). -/
def Obligations.SetRoomTemp : Prop :=
  ∀ (idx : Byte) (arg : U16) (s : State),
    if -5000 ≤ arg.toInt ∧ arg.toInt ≤ 8000 then
      HostStores (.setRoomTemp idx arg) .roomt (BitVec.ofInt 16 (arg.toInt + 5000)) { s.snap with room := arg.toInt } s
    else exec (.setRoomTemp idx arg) s = rejected 0x06 idx arg s

/-- SET_MODEL: accepted for 1, 2 and 3: MODEL becomes the model, the 24 per-vane registers 0, every other register stays, the
snapshot is recomputed (only its model and swing change), the id is persisted and the snapshot returned; rejected otherwise
(spec/45_state_sync.md R195). -/
def Obligations.SetModel : Prop :=
  ∀ (idx : Byte) (arg : U16) (s : State), Consistent s →
    (∀ m : Model, modelId m = arg.toNat →
      ∃ t, exec (.setModel idx arg) s = .next t ∧
        (∀ g v, bankRead t.regs (.vane g v) = 0) ∧
        (∀ o, (∀ g v, o ≠ .vane g v) → bankRead t.regs o = bankRead s.regs o) ∧
        t = { s with
          model := m
          regs := t.regs
          snap := { s.snap with model := m, swing := decide (s.regs.vswgG ≠ 0 ∨ s.regs.hswgG ≠ 0) }
          persisted := s.persisted ++ [m]
          returned := s.returned ++ [.snapshot t.snap] }) ∧
      ((∀ m : Model, modelId m ≠ arg.toNat) → exec (.setModel idx arg) s = rejected 0x07 idx arg s)

/-- SET_VVANE_POS and SET_VVANE_SWING: an index 0 to 3 of a vane the model supports is accepted, the position clamped to 1 up to
VSTEPS, the swing stored as 0 or 1 with swing recomputed; every other index is rejected (spec/45_state_sync.md R196, R197,
R198). -/
def Obligations.SetVerticalVane : Prop :=
  ∀ (idx : Byte) (arg : U16) (s : State), configWf s.cfg = true →
    (∀ v : Vane, vaneIndex v = idx.toNat → VerticalWritable s.model v →
      (∃ x : U16, x.toNat = min (max arg.toNat 1) (perModel s.cfg.vSteps s.model).toNat ∧
        HostStores (.setVvanePos idx arg) (.vane .vdir v) x s.snap s) ∧
      HostStores (.setVvaneSwing idx arg) (.vane .vswg v) (if arg = 0 then 0 else 1)
        { s.snap with swing := swingAfter (.vane .vswg v) (if arg = 0 then 0 else 1) s } s) ∧
      ((∀ v : Vane, vaneIndex v = idx.toNat → ¬VerticalWritable s.model v) →
        exec (.setVvanePos idx arg) s = rejected 0x09 idx arg s ∧ exec (.setVvaneSwing idx arg) s = rejected 0x0A idx arg s)

/-- SET_HVANE_POS and SET_HVANE_SWING: as the vertical setters, on the horizontal axis, where Office supports no vane
(spec/45_state_sync.md R196, R199, R200). -/
def Obligations.SetHorizontalVane : Prop :=
  ∀ (idx : Byte) (arg : U16) (s : State), configWf s.cfg = true →
    (∀ v : Vane, vaneIndex v = idx.toNat → HorizontalWritable s.cfg s.model v →
      (∃ x : U16, x.toNat = min (max arg.toNat 1) (perModel s.cfg.hSteps s.model).toNat ∧
        HostStores (.setHvanePos idx arg) (.vane .xhpos v) x s.snap s) ∧
      HostStores (.setHvaneSwing idx arg) (.vane .xhswg v) (if arg = 0 then 0 else 1)
        { s.snap with swing := swingAfter (.vane .xhswg v) (if arg = 0 then 0 else 1) s } s) ∧
      ((∀ v : Vane, vaneIndex v = idx.toNat → ¬HorizontalWritable s.cfg s.model v) →
        exec (.setHvanePos idx arg) s = rejected 0x0B idx arg s ∧ exec (.setHvaneSwing idx arg) s = rejected 0x0C idx arg s)

/-- Every operation word has an outcome: it is accepted, or it is rejected with InvalidRequest and DeviceState unchanged; the
snapshot after the operation is returned in both cases (GET_CAPS returns the capability fields). A code from 0x0D to 0xFF is
HOST.INVALID and is rejected (spec/45_state_sync.md R187, R188). -/
def Obligations.HostOutcomes : Prop :=
  ∀ (op idx : Byte) (arg : U16) (s : State),
    (∃ t, exec (decodeHostOp op idx arg) s = .next t ∧ (op = 0x08 ∨ t.returned = s.returned ++ [.snapshot t.snap]) ∧
      (t.diag = s.diag ∨ exec (decodeHostOp op idx arg) s = rejected op idx arg s)) ∧
      exec (.hostInvalid op idx arg) s = rejected op idx arg s ∧
      (0x0D ≤ op.toNat → decode (.host ((op ++ idx) ++ arg)) = .ok (.hostInvalid op idx arg))

/-! ### The whole machine -/

/-- The invariant holds after RESET under every well-formed configuration, and of State.reset (spec/10_state.md R24, R28). -/
def Obligations.InvariantAtReset : Prop :=
  (∀ c : Config, configWf c = true → BlockInvariant (State.resetWith c)) ∧ BlockInvariant State.reset

/-- Every step keeps the invariant: the configuration well formed, the snapshot consistent and within its types, registers only
where OBJ has them, no dispatch without a link, a dispatch and outputs that fit the protocol (spec/10_state.md R22, R24,
spec/42_dispatch.md R127, R131). -/
def Obligations.StepKeepsInvariant : Prop :=
  ∀ s t : State, BlockInvariant s → step s = .next t → BlockInvariant t

/-- No state that meets the invariant stops: every step has a next state, whatever the bytes, the host words and the events
(spec/60_exceptions.md R205: no error is fatal). -/
def Obligations.InvariantStatesNeverStop : Prop :=
  ∀ s : State, BlockInvariant s → ∃ t, step s = .next t

/-- Every object write and every host operation keeps the snapshot consistent with the registers
(spec/45_state_sync.md R204). -/
def Obligations.SectionsKeepConsistency : Prop :=
  (∀ (w : BitVec 32) (s : State), Consistent s → ∃ t, exec (decodePair w) s = .next t ∧ Consistent t) ∧
    ∀ (w : BitVec 32) (s : State), Consistent s → ∃ t, exec (decodeHost w) s = .next t ∧ Consistent t

/-- Recomputing the snapshot twice is recomputing it once, for every snapshot and every register bank
(spec/45_state_sync.md R185). -/
def Obligations.RecomputationIsIdempotent : Prop :=
  ∀ (m : Model) (b : Bank) (s : Snapshot), r2s m b (r2s m b s) = r2s m b s

/-- MODEL changes only through SET_MODEL and RESET. No write over the wire changes MODEL, the static capability fields or BUF, and
none emits PERSIST; no host operation emits a frame or touches BUF or the agent's own state (spec/10_state.md R19,
spec/43_object_writes.md R157, spec/45_state_sync.md R203). -/
def Obligations.PortsKeepTheirBounds : Prop :=
  (∀ s t : State, step s = .next t → t.model ≠ s.model →
      (∃ (w : BitVec 32) (rest : List Event) (idx : Byte) (arg : U16),
        s.env = .host w :: rest ∧ decode (.host w) = .ok (.setModel idx arg)) ∨
        ∃ (id : Nat) (rest : List Event), s.env = .reset id :: rest) ∧
    (∀ (w : BitVec 32) (s t : State), exec (decodePair w) s = .next t →
      t.model = s.model ∧ profile t.cfg t.model = profile s.cfg s.model ∧ t.buf = s.buf ∧ t.persisted = s.persisted) ∧
    (∀ (a : Addr) (p : List Byte) (s t : State), exec (.cmd2 a p) s = .next t →
      t.model = s.model ∧ profile t.cfg t.model = profile s.cfg s.model ∧ t.buf = s.buf ∧ t.persisted = s.persisted) ∧
    ∀ (w : BitVec 32) (s t : State), exec (decodeHost w) s = .next t →
      t.tx = s.tx ∧ t.buf = s.buf ∧ t.link = s.link ∧ t.phase = s.phase ∧ t.entries = s.entries

/-- A CMD3 read changes no state: a class/number point adds its entry and nothing else, and the reads of a whole payload change
nothing but the response in progress and the diagnostics (spec/20_memory.md R45). What an object-mode read answers: the entry is
the id and the value of the register of OBJ with that id, whether or not the model supports its vane; a hole answers 0 with
UnknownObject; the value half of the requested pair has no influence; one entry for each pair, in order
(spec/42_dispatch.md R124, spec/30_encoding.md R71). The last clause, that each pair is one step of the agent
with the rest of the payload kept in its phase, is the model's own choice (notes/assumptions/6.md). -/
def Obligations.ReadsHaveNoSideEffects : Prop :=
  (∀ (w : BitVec 16) (s : State), ∃ t, exec (decodeClsnum w) s = .next t ∧ t = { s with entries := t.entries }) ∧
    (∀ (p : List Byte) (s : State),
      readPoints p s = { s with entries := (readPoints p s).entries } ∧
        readObjects p s = { s with entries := (readObjects p s).entries, diag := (readObjects p s).diag }) ∧
    (∀ (id : U16) (s : State), configWf s.cfg = true →
      (∀ o, Holds s.cfg o → objId o = id →
        readObject id s =
          { s with entries := s.entries ++ [hi8 id, lo8 id, hi8 (bankRead s.regs o), lo8 (bankRead s.regs o)] }) ∧
        ((∀ o, Holds s.cfg o → objId o ≠ id) →
          readObject id s =
            { s with entries := s.entries ++ [hi8 id, lo8 id, 0x00, 0x00], diag := s.diag ++ [.unknownObject id] })) ∧
    (∀ (p0 p1 p2 p3 : Byte) (rest : List Byte) (s : State),
      readObjects (p0 :: p1 :: p2 :: p3 :: rest) s = readObjects rest (readObject (be16 p0 p1) s) ∧ readObjects [] s = s) ∧
    ∀ (a : Addr) (p0 p1 p2 p3 : Byte) (rest : List Byte) (s u : State), configWf s.cfg = true → AgentTurn s u →
      s.phase = .readingObjects a (p0 :: p1 :: p2 :: p3 :: rest) →
      step s = .next { readObject (be16 p0 p1) u with phase := .readingObjects a rest }

/-- A frame is handed to TX only as the answer a dispatch has built: one step adds at most that one frame, and a write failure
changes no device state (spec/42_dispatch.md R129). The diagnostics are the model's record (notes/assumptions/10.md). -/
def Obligations.TransmissionOnlyAnswers : Prop :=
  (∀ s t : State, step s = .next t →
      t.tx = s.tx ∨ (∃ r, s.link = .bound ∧ s.phase = .responding r ∧ t.tx = s.tx ++ [r] ∧ t.phase = .reading) ∨
        ∃ (id : Nat) (rest : List Event), s.env = .reset id :: rest) ∧
    (∀ (s u : State) (r : List Byte), configWf s.cfg = true → AgentTurn s u → s.phase = .responding r →
      step s = .next { u with tx := s.tx ++ [r], phase := .reading }) ∧
    ∀ (s : State) (r : List Byte) (rest : List Event), configWf s.cfg = true → s.link = .bound → s.phase = .responding r →
      s.env = .txFail :: rest →
      step s = .next { s with env := rest, tx := s.tx ++ [r], phase := .reading, diag := s.diag ++ [.txFailed] }

/-- RESET puts BUF, LINK, MODEL, every register of OBJ, the snapshot and the TX trace to the values of the table
(spec/10_state.md R28, spec/70_reset_and_hazards.md R227). That the event brings the MODEL_AT_RESET of R229, empties the other
output lists too and keeps the events to come is the model's choice (notes/assumptions/18.md), and so is that it acts at once,
even on a dispatch under way (notes/assumptions/21.md). -/
def Obligations.ResetValues : Prop :=
  (∀ (c : Config) (m : Model), modelId m = c.modelAtReset →
      (State.resetWith c).buf = [] ∧ (State.resetWith c).link = .unbound ∧ (State.resetWith c).model = m ∧
        (∀ o, Holds c o → bankRead (State.resetWith c).regs o = cellsRead c.regReset (objId o).toNat) ∧
        (State.resetWith c).snap = r2s m (State.resetWith c).regs { c.snapSeed with model := m } ∧
        (State.resetWith c).tx = [] ∧ (State.resetWith c).cfg = c) ∧
    ∀ (s : State) (m : Model) (rest : List Event), configWf s.cfg = true → s.env = .reset (modelId m) :: rest →
      step s = .next { State.resetWith { s.cfg with modelAtReset := modelId m } with env := rest }

/-- TRANSPORT_FAIL unbinds the link between the agent's steps and leaves DeviceState and BUF; a dispatch under way goes on first.
REBIND is possible only while UNBOUND, binds the link, empties BUF and carries DeviceState over. While UNBOUND the agent has no
step: its turn, a chunk, TIMEOUT or a failing TX is taken off the events and nothing else changes, so there is no PUSH, no result of
READ and no TX (spec/60_exceptions.md R215, R216, spec/10_state.md R32). The model's choices: an event that cannot occur where it
stands is dropped (notes/assumptions/7.md), a dispatch under way defers TRANSPORT_FAIL (notes/assumptions/8.md), a response that
waits for TX at TRANSPORT_FAIL is lost, and TRANSPORT_FAIL while UNBOUND leaves the link unbound (notes/assumptions/9.md). -/
def Obligations.LinkEvents : Prop :=
  (∀ (s : State) (rest : List Event), configWf s.cfg = true → s.env = .transportFail :: rest →
      (s.link = .unbound ∨ inDispatch s.phase = false) →
      ∃ t, step s = .next t ∧ t.link = .unbound ∧ t.buf = s.buf ∧ t.regs = s.regs ∧ t.model = s.model ∧ t.snap = s.snap ∧
        t.tx = s.tx ∧ t.env = rest) ∧
    (∀ (s t : State) (rest : List Event), s.env = .transportFail :: rest → s.link = .bound → inDispatch s.phase = true →
      step s = .next t → t.env = s.env ∧ t.link = .bound) ∧
    (∀ (s : State) (rest : List Event), configWf s.cfg = true → s.env = .rebind :: rest → s.link = .unbound →
      step s = .next { s with env := rest, link := .bound, buf := [], phase := .reading, entries := [] }) ∧
    (∀ (s : State) (rest : List Event), configWf s.cfg = true → s.env = .rebind :: rest → s.link = .bound →
      step s = .next { s with env := rest }) ∧
    (∀ s : State, configWf s.cfg = true → s.env = [] → s.link = .unbound → step s = .next s) ∧
    ∀ (s : State) (e : Event) (rest : List Event), configWf s.cfg = true → s.link = .unbound → s.env = e :: rest →
      (e = .agent ∨ (∃ c, e = .chunk c) ∨ e = .timeout ∨ e = .txFail) → step s = .next { s with env := rest }

/-- PUSH appends the chunk, whatever its bytes, and a scan comes next; TIMEOUT ends the READ without a frame and keeps BUF;
neither reaches the agent before it waits in READ (spec/41_frame_sync.md R93, spec/60_exceptions.md R214). -/
def Obligations.ReadEvents : Prop :=
  (∀ (s : State) (c : List Byte) (rest : List Event), configWf s.cfg = true → s.link = .bound → s.phase = .reading →
      s.env = .chunk c :: rest → chunkFits s.cfg c = true →
      step s = .next { s with env := rest, buf := s.buf ++ c, phase := .scanning }) ∧
    (∀ (s : State) (rest : List Event), configWf s.cfg = true → s.link = .bound → s.phase = .reading →
      s.env = .timeout :: rest → step s = .next { s with env := rest, reads := s.reads ++ [.timedOut] }) ∧
    ∀ (s t : State) (e : Event) (rest : List Event), s.link = .bound → s.phase ≠ .reading → s.env = e :: rest →
      (e = .timeout ∨ ∃ c, e = .chunk c) → step s = .next t → t.env = s.env

/-- A round of READ: after the scan the frame found goes to the dispatcher and READ returns it; otherwise the agent reads again;
BUF is as the scan left it (spec/41_frame_sync.md R105, R106). -/
def Obligations.ReadRound : Prop :=
  ∀ s u : State, configWf s.cfg = true → AgentTurn s u → s.phase = .scanning →
    ∃ t, step s = .next t ∧ t.buf = (scan s.buf).buf ∧ t.scans = s.scans ++ [(scan s.buf).outcome] ∧
      t.regs = s.regs ∧ t.snap = s.snap ∧ t.model = s.model ∧ t.tx = s.tx ∧
      match (scan s.buf).outcome with
      | .found => ∃ f, (scan s.buf).frame = some f ∧ t.phase = .dispatching f ∧ t.reads = s.reads ++ [.frame f]
      | .partialFront => t.phase = .reading ∧ t.reads = s.reads
      | .noFrame => t.phase = .reading ∧ t.reads = s.reads

/-- What the block has put out has no influence on what it does next: two states that differ only in their output traces step to
states that differ only there, and stop together (spec/10_state.md R27, spec/60_exceptions.md R219). -/
def Obligations.OutputsAreNeverRead : Prop :=
  ∀ s s' : State, SameButOutputs s s' →
    (∀ t, step s = .next t → ∃ t', step s' = .next t' ∧ SameButOutputs t t') ∧ ∀ r, step s = .refused r → step s' = .refused r

/-! ### The synchronizer -/

/-- Resynchronization: noise in which no candidate is accepted, a frame that passes the tests, more bytes: one scan finds exactly
that frame and leaves what follows it, provided that offset 0, when there is noise before the frame, is not a partial candidate
(spec/41_frame_sync.md R108). -/
def Obligations.Resynchronization : Prop :=
  ∀ pre f post : List Byte, Acceptable f 0 → f.length = 7 + candLen f 0 →
    (∀ i < pre.length, ¬Acceptable (pre ++ f ++ post) i) → (pre ≠ [] → ¬FrontPartial (pre ++ f ++ post)) →
    (scan (pre ++ f ++ post)).outcome = .found ∧ (scan (pre ++ f ++ post)).frame = some f ∧
      (scan (pre ++ f ++ post)).buf = post

/-- A scan finds a frame at an offset exactly when the candidate there passes every test, no lower offset does, and offset 0 is not
a partial candidate; it then returns that candidate and leaves what follows it (spec/41_frame_sync.md R101, R104). -/
def Obligations.ScanAcceptsExactly : Prop :=
  ∀ buf f rest : List Byte,
    ((scan buf).frame = some f ∧ (scan buf).buf = rest) ↔
      ∃ i, Acceptable buf i ∧ (∀ j < i, ¬Acceptable buf j) ∧ ¬FrontPartial buf ∧ f = candidate buf i ∧
        rest = buf.drop (i + 7 + candLen buf i)

/-- What a scan never does: it never returns a frame that does not verify, is longer than 57 bytes, has a command outside CMDSET or
is the idle pattern; it never changes, reorders or removes bytes but by dropping a prefix (spec/41_frame_sync.md R109,
R112). -/
def Obligations.ScanNeverMisdelivers : Prop :=
  ∀ buf f : List Byte,
    ((scan buf).frame = some f →
      verify f = true ∧ f.length ≤ 57 ∧ (f.getD 0 0).toNat ≤ 3 ∧ ¬(∀ k < 5, f.getD k 0 = 0) ∧
        ∃ skipped, buf = skipped ++ f ++ (scan buf).buf) ∧
      (∃ dropped, buf = dropped ++ (scan buf).buf) ∧ verify [0x00, 0x00, 0x00, 0x00, 0x00, 0xFF, 0xFF] = true

/-- A scan that accepts nothing: a partial candidate at the front, and only such a one, ends it PARTIAL with BUF unchanged, whatever
lies further in; otherwise it ends NONE, and a buffer of more than 256 bytes, and only such a one, loses its oldest 128
(spec/41_frame_sync.md R99, R103). -/
def Obligations.ScanWithoutFrame : Prop :=
  ∀ buf : List Byte,
    (FrontPartial buf →
      (scan buf).outcome = .partialFront ∧ (scan buf).frame = none ∧ (scan buf).buf = buf ∧
        (scan buf).conds = [.partialFrame (7 + candLen buf 0) buf.length]) ∧
      ((scan buf).outcome = .partialFront → FrontPartial buf) ∧
      (¬FrontPartial buf → (∀ i, ¬Acceptable buf i) →
        (scan buf).outcome = .noFrame ∧ (scan buf).frame = none ∧
          (scan buf).buf = if 256 < buf.length then buf.drop 128 else buf)

/-- The memory bound after each outcome of a scan, and what follows of it for chunks of at most 128 bytes
(spec/41_frame_sync.md R111). -/
def Obligations.ScanMemoryBound : Prop :=
  (∀ buf : List Byte,
      match (scan buf).outcome with
      | .noFrame => (scan buf).buf.length ≤ max 256 (buf.length - 128)
      | .partialFront => (scan buf).buf.length < 57
      | .found => (scan buf).buf.length + 7 ≤ buf.length) ∧
    ∀ buf c : List Byte, buf.length ≤ 256 → c.length ≤ 128 → (scan (buf ++ c)).outcome = .noFrame →
      (scan (buf ++ c)).buf.length ≤ 256

/-! ### The checksum -/

/-- The serial form of the checksum is the checksum, and with S the byte sum: CKS is 0xFFFF - S, -S - 1, and S + CKS is 0xFFFF; it
does not depend on the order of the bytes, and the checksum of a concatenation follows from the two
(spec/40_checksum.md R82, R83). -/
def Obligations.ChecksumForms : Prop :=
  (∀ s : List Byte, cksSerial s = cks s) ∧
    (∀ s : List Byte,
      cks s = 0xFFFF - BitVec.ofNat 16 (byteSum s) ∧ (cks s).toNat = 0xFFFF - byteSum s % 65536 ∧
        cks s = -BitVec.ofNat 16 (byteSum s) - 1 ∧ BitVec.ofNat 16 (byteSum s) + cks s = 0xFFFF) ∧
    (∀ s t : List Byte, s.Perm t → cks s = cks t) ∧ ∀ s t : List Byte, cks (s ++ t) = cks s + cks t + 1

/-- VERIFY of SEAL: whatever carries its own length at offset 4 verifies once sealed (spec/40_checksum.md R90). -/
def Obligations.SealedFramesVerify : Prop :=
  ∀ h : List Byte, 5 ≤ h.length → (h.getD 4 0).toNat = h.length - 5 → verify (sealFrame h) = true

/-- VERIFY by addition: with the declared frame held, it is true exactly when the covered bytes and the received checksum add up to
0xFFFF; bytes beyond the declared frame make no difference (spec/40_checksum.md R85, R86). -/
def Obligations.VerifyByAddition : Prop :=
  ∀ f : List Byte, 7 + (f.getD 4 0).toNat ≤ f.length →
    (verify f = true ↔
      BitVec.ofNat 16 (byteSum (f.take (5 + (f.getD 4 0).toNat))) +
        be16 (f.getD (5 + (f.getD 4 0).toNat) 0) (f.getD (6 + (f.getD 4 0).toNat) 0) = 0xFFFF) ∧
      verify f = verify (f.take (7 + (f.getD 4 0).toNat))

/-- Any corruption of one covered byte or checksum byte, other than the length byte, makes VERIFY false
(spec/40_checksum.md R91). -/
def Obligations.SingleByteCorruptionCaught : Prop :=
  ∀ (f : List Byte) (k : Nat) (b : Byte), verify f = true → k < 7 + (f.getD 4 0).toNat → k ≠ 4 → f.getD k 0 ≠ b →
    verify (f.set k b) = false
end

