-- ==== Sys2Proof/Laws/Bank.lean ====
section
/-! SUPPORT. The laws of the register bank: a read after a write, the canonical form of the sparse cells, the registry and
its ids. -/

namespace Sys2Proof.Machine

/-! ### Per-vane tables -/

@[simp] theorem vaneGet_vaneSet_same {α : Type} (q : PerVane α) (v : Vane) (x : α) : vaneGet (vaneSet q v x) v = x := by
  simp [vaneGet, vaneSet]

theorem vaneGet_vaneSet_other {α : Type} (q : PerVane α) {v w : Vane} (x : α) (h : w ≠ v) :
    vaneGet (vaneSet q v x) w = vaneGet q w :=
  Vector.getElem_set_ne v.isLt w.isLt fun e => h (Fin.ext e.symm)

@[simp] theorem vaneGet_ofFn {α : Type} (f : Vane → α) (v : Vane) : vaneGet (Vector.ofFn f) v = f v := by
  simp [vaneGet]

theorem mem_vanes (v : Vane) : v ∈ vanes := List.mem_finRange v

/-! ### Cells -/

/-- Clearing a cell leaves it at 0. -/
theorem cellsRead_cellsWrite_zero (c : Cells) (a : Nat) : cellsRead (cellsWrite c a 0#16) a = 0#16 := by
  induction c with
  | nil => rfl
  | cons e t ih =>
    obtain ⟨k, w⟩ := e
    by_cases hk : k = a
    · simp [cellsWrite, hk, ih]
    · simp [cellsWrite, cellsRead, hk, ih]

/-- A cell reads as it was last written, whether or not the cells are in canonical form. -/
@[simp] theorem cellsRead_cellsWrite_same (c : Cells) (a : Nat) (v : U16) : cellsRead (cellsWrite c a v) a = v := by
  by_cases hv : v = 0#16
  · subst hv; exact cellsRead_cellsWrite_zero c a
  induction c with
  | nil => simp [cellsWrite, cellsRead, hv]
  | cons e t ih =>
    obtain ⟨k, w⟩ := e
    by_cases hk : k = a
    · simp [cellsWrite, cellsRead, hk, hv]
    · by_cases hl : a < k
      · simp [cellsWrite, cellsRead, hk, hl, hv]
      · simp [cellsWrite, cellsRead, hk, hl, ih]

/-- A write leaves every other cell alone. -/
theorem cellsRead_cellsWrite_other (c : Cells) {a b : Nat} (v : U16) (h : b ≠ a) :
    cellsRead (cellsWrite c a v) b = cellsRead c b := by
  have hz : ∀ c : Cells, cellsRead (cellsWrite c a 0#16) b = cellsRead c b := by
    intro c
    induction c with
    | nil => rfl
    | cons e t ih =>
      obtain ⟨k, w⟩ := e
      by_cases hk : k = a
      · have : a ≠ b := fun e => h e.symm
        simp [cellsWrite, cellsRead, hk, ih, this]
      · simp [cellsWrite, cellsRead, hk, ih]
  by_cases hv : v = 0#16
  · subst hv; exact hz c
  have hab : a ≠ b := fun e => h e.symm
  induction c with
  | nil => simp [cellsWrite, cellsRead, hv, hab]
  | cons e t ih =>
    obtain ⟨k, w⟩ := e
    by_cases hk : k = a
    · simp [cellsWrite, cellsRead, hk, hv, hab]
    · by_cases hl : a < k
      · simp [cellsWrite, cellsRead, hk, hl, hv, hab]
      · simp [cellsWrite, cellsRead, hk, hl, ih]

theorem cellsWfFrom_cons {lo k : Nat} {w : U16} {t : Cells} :
    cellsWfFrom lo ((k, w) :: t) = true ↔ lo ≤ k ∧ w ≠ 0 ∧ cellsWfFrom (k + 1) t = true := by
  simp [cellsWfFrom, and_assoc]

/-- A lower bound on the ids may be lowered. -/
theorem cellsWfFrom_mono {lo hi : Nat} {c : Cells} (hle : lo ≤ hi) (h : cellsWfFrom hi c = true) : cellsWfFrom lo c = true := by
  cases c with
  | nil => rfl
  | cons e t =>
    obtain ⟨h1, h2⟩ := cellsWfFrom_cons.mp h
    exact cellsWfFrom_cons.mpr ⟨le_trans hle h1, h2⟩

/-- Clearing a cell keeps the canonical form. -/
theorem cellsWfFrom_clear (a : Nat) {lo : Nat} {c : Cells} (h : cellsWfFrom lo c = true) :
    cellsWfFrom lo (cellsWrite c a 0) = true := by
  induction c generalizing lo with
  | nil => rfl
  | cons e t ih =>
    obtain ⟨h1, h2, h3⟩ := cellsWfFrom_cons.mp h
    by_cases hk : e.1 = a
    · rw [cellsWrite, if_pos hk, if_pos rfl]
      exact cellsWfFrom_mono (by omega) (ih h3)
    · rw [cellsWrite, if_neg hk, if_neg (fun hc => hc.2 rfl)]
      exact cellsWfFrom_cons.mpr ⟨h1, h2, ih h3⟩

/-- A write at or above the lower bound keeps the canonical form. -/
theorem cellsWfFrom_cellsWrite {lo a : Nat} {v : U16} {c : Cells} (hlo : lo ≤ a) (h : cellsWfFrom lo c = true) :
    cellsWfFrom lo (cellsWrite c a v) = true := by
  by_cases hv : v = 0
  · rw [hv]; exact cellsWfFrom_clear a h
  induction c generalizing lo with
  | nil =>
    rw [cellsWrite, if_neg hv]
    exact cellsWfFrom_cons.mpr ⟨hlo, hv, rfl⟩
  | cons e t ih =>
    obtain ⟨h1, h2, h3⟩ := cellsWfFrom_cons.mp h
    by_cases hk : e.1 = a
    · rw [cellsWrite, if_pos hk, if_neg hv]
      exact cellsWfFrom_cons.mpr ⟨hlo, hv, hk ▸ h3⟩
    · by_cases hl : a < e.1
      · rw [cellsWrite, if_neg hk, if_pos ⟨hl, hv⟩]
        exact cellsWfFrom_cons.mpr ⟨hlo, hv, cellsWfFrom_cons.mpr ⟨hl, h2, h3⟩⟩
      · rw [cellsWrite, if_neg hk, if_neg (fun hc => hl hc.1)]
        exact cellsWfFrom_cons.mpr ⟨h1, h2, ih (by omega) h3⟩

/-- A write keeps the canonical form. -/
theorem cellsWf_cellsWrite {c : Cells} (a : Nat) (v : U16) (h : cellsWf c = true) : cellsWf (cellsWrite c a v) = true :=
  cellsWfFrom_cellsWrite (Nat.zero_le a) h

/-- A cell held after a clear was held before. -/
theorem mem_cellsWrite_clear {c : Cells} {a : Nat} {e : Nat × U16} (h : e ∈ cellsWrite c a 0) : e ∈ c := by
  induction c with
  | nil => exact h
  | cons d t ih =>
    by_cases hk : d.1 = a
    · rw [cellsWrite, if_pos hk, if_pos rfl] at h
      exact List.mem_cons_of_mem _ (ih h)
    · rw [cellsWrite, if_neg hk, if_neg (fun hc => hc.2 rfl)] at h
      exact List.mem_cons.mpr ((List.mem_cons.mp h).imp id ih)

/-- A cell held after a write was held before or is the one written. -/
theorem mem_cellsWrite {c : Cells} {a : Nat} {v : U16} {e : Nat × U16} (h : e ∈ cellsWrite c a v) : e ∈ c ∨ e = (a, v) := by
  by_cases hv : v = 0
  · subst hv; exact .inl (mem_cellsWrite_clear h)
  induction c with
  | nil =>
    rw [cellsWrite, if_neg hv] at h
    exact .inr (List.mem_singleton.mp h)
  | cons d t ih =>
    by_cases hk : d.1 = a
    · rw [cellsWrite, if_pos hk, if_neg hv] at h
      exact (List.mem_cons.mp h).symm.imp (List.mem_cons_of_mem _) id
    · by_cases hl : a < d.1
      · rw [cellsWrite, if_neg hk, if_pos ⟨hl, hv⟩] at h
        exact (List.mem_cons.mp h).symm
      · rw [cellsWrite, if_neg hk, if_neg (fun hc => hl hc.1)] at h
        rcases List.mem_cons.mp h with h | h
        · exact .inl (h ▸ List.mem_cons_self)
        · exact (ih h).imp (List.mem_cons_of_mem _) id

/-! ### The bank -/

@[simp] theorem bankGroup_bankSetGroup_same (b : Bank) (g : VaneGroup) (q : PerVane U16) : bankGroup (bankSetGroup b g q) g = q := by
  cases g <;> rfl

theorem bankGroup_bankSetGroup_other (b : Bank) {g h : VaneGroup} (q : PerVane U16) (hne : h ≠ g) :
    bankGroup (bankSetGroup b g q) h = bankGroup b h := by
  cases g <;> cases h <;> first | rfl | exact absurd rfl hne

/-- A register reads as it was last written. -/
@[simp] theorem bankRead_bankWrite_same (b : Bank) (o : Obj) (x : U16) : bankRead (bankWrite b o x) o = x := by
  cases o <;> simp [bankRead, bankWrite]

/-- A write leaves every other register alone: there is no alias (spec/10_state.md R17). -/
theorem bankRead_bankWrite_other (b : Bank) {o p : Obj} (x : U16) (h : p ≠ o) :
    bankRead (bankWrite b o x) p = bankRead b p := by
  cases o with
  | vane g v =>
    cases p with
    | vane g' v' =>
      simp only [bankRead, bankWrite]
      by_cases hg : g' = g
      · subst hg
        have hv : v' ≠ v := fun e => h (by rw [e])
        simp [vaneGet_vaneSet_other _ _ hv]
      · rw [bankGroup_bankSetGroup_other _ _ hg]
    | _ => cases g <;> rfl
  | extra id =>
    cases p with
    | extra id' =>
      have hne : id'.toNat ≠ id.toNat := fun e => h (by rw [BitVec.eq_of_toNat_eq e])
      exact cellsRead_cellsWrite_other _ _ hne
    | vane g' v' => cases g' <;> rfl
    | _ => rfl
  | _ =>
    cases p with
    | vane g' v' => cases g' <;> rfl
    | _ => first | rfl | exact absurd rfl h

/-- Reading after a write, in one line. -/
theorem bankRead_bankWrite (b : Bank) (o p : Obj) (x : U16) :
    bankRead (bankWrite b o x) p = if p = o then x else bankRead b p := by
  split
  · next h => rw [h]; exact bankRead_bankWrite_same b o x
  · next h => exact bankRead_bankWrite_other b x h

/-- Writing one value into a list of registers: each register of the list holds it, every other one is left alone. -/
theorem bankRead_bankWriteAll (b : Bank) (os : List Obj) (p : Obj) (x : U16) :
    bankRead (bankWriteAll b os x) p = if p ∈ os then x else bankRead b p := by
  induction os generalizing b with
  | nil => simp [bankWriteAll]
  | cons o t ih =>
    have : bankWriteAll b (o :: t) x = bankWriteAll (bankWrite b o x) t x := rfl
    rw [this, ih, bankRead_bankWrite]
    by_cases ht : p ∈ t
    · simp [ht]
    · by_cases ho : p = o <;> simp [ht, ho]

/-- A write to a register of the registry leaves the registers of EXTRA_OBJ as they are held. -/
theorem bankWrite_extra_of_ne (b : Bank) {o : Obj} (x : U16) (h : ∀ id, o ≠ .extra id) : (bankWrite b o x).extra = b.extra := by
  cases o with
  | vane g v => cases g <;> rfl
  | extra id => exact absurd rfl (h id)
  | _ => rfl

@[simp] theorem bankWrite_extra_extra (b : Bank) (id x : U16) :
    (bankWrite b (.extra id) x).extra = cellsWrite b.extra id.toNat x := rfl

/-- A bank write keeps the canonical form of the sparse cells. -/
theorem cellsWf_bankWrite {b : Bank} (o : Obj) (x : U16) (h : cellsWf b.extra = true) :
    cellsWf (bankWrite b o x).extra = true := by
  cases o with
  | extra id => exact cellsWf_cellsWrite _ _ h
  | vane g v => cases g <;> exact h
  | _ => exact h

/-- A bank write to a list of registers keeps the canonical form. -/
theorem cellsWf_bankWriteAll {b : Bank} (os : List Obj) (x : U16) (h : cellsWf b.extra = true) :
    cellsWf (bankWriteAll b os x).extra = true := by
  induction os generalizing b with
  | nil => exact h
  | cons o t ih => exact ih (cellsWf_bankWrite o x h)

/-- The registers after RESET are in canonical form. -/
theorem cellsWf_resetBank (c : Config) : cellsWf (resetBank c).extra = true := by
  have key : ∀ (l : List U16) (b : Bank), cellsWf b.extra = true →
      cellsWf (l.foldl (fun b id => bankWrite b (.extra id) (cellsRead c.regReset (objId (.extra id)).toNat)) b).extra
        = true := by
    intro l
    induction l with
    | nil => exact fun b h => h
    | cons id t ih => exact fun b h => ih _ (cellsWf_bankWrite _ _ h)
  exact key c.extraObj _ rfl

/-! ### The registry -/

/-- Every register but those of EXTRA_OBJ is in the registry. -/
theorem mem_registry {o : Obj} : o ∈ registry ↔ ∀ id, o ≠ .extra id := by
  constructor
  · rintro h id rfl
    simp [registry, plainRegistry, vaneRegistry, groupRegistry, vanes] at h
  · intro h
    cases o with
    | extra id => exact absurd rfl (h id)
    | vane g v => clear h; cases g <;> revert v <;> decide
    | _ => decide

/-- The ids of the registry are 36 different ids. -/
theorem registryIds_nodup : registryIds.Nodup := by decide

/-- Two registers of the registry with one id are one register. -/
theorem objId_injOn {o p : Obj} (ho : o ∈ registry) (hp : p ∈ registry) (h : objId o = objId p) : o = p :=
  List.inj_on_of_nodup_map registryIds_nodup ho hp h

/-- The registry gives every one of its registers back by its id. -/
theorem registryFind_objId {o : Obj} (ho : o ∈ registry) : registryFind (objId o) = some o := by
  cases hf : registryFind (objId o) with
  | none =>
    rw [registryFind, List.find?_eq_none] at hf
    exact absurd (by simp) (hf o ho)
  | some p =>
    have hp := List.mem_of_find?_eq_some hf
    have he := List.find?_some hf
    simp only [beq_iff_eq] at he
    rw [objId_injOn hp ho he]

/-- What the registry answers with has the id asked for. -/
theorem objId_of_registryFind {id : U16} {o : Obj} (h : registryFind id = some o) : objId o = id ∧ o ∈ registry :=
  ⟨by simpa using List.find?_some h, List.mem_of_find?_eq_some h⟩

/-- The registry has no register exactly for the ids outside it. -/
theorem registryFind_eq_none {id : U16} : registryFind id = none ↔ id ∉ registryIds := by
  simp only [registryFind, List.find?_eq_none, beq_iff_eq, registryIds, List.mem_map, not_exists, not_and]

/-- The register found for an id has that id. -/
theorem objId_of_objFind {extra : List U16} {id : U16} {o : Obj} (h : objFind extra id = some o) : objId o = id := by
  unfold objFind at h
  split at h
  · next p hp =>
    cases h
    exact (objId_of_registryFind hp).1
  · split at h
    · cases h; rfl
    · cases h

end Sys2Proof.Machine
end

