-- ==== Sys2Proof/Laws/Checksum.lean ====
section
/-! SUPPORT. Lemmas on bytes, the byte sum and VERIFY. -/

namespace Sys2Proof.Machine

/-- The two halves put together give the value back. -/
@[simp] theorem be16_hi8_lo8 (v : U16) : be16 (hi8 v) (lo8 v) = v := by
  apply BitVec.eq_of_toNat_eq
  simp only [be16, hi8, lo8, BitVec.toNat_append, BitVec.extractLsb'_toNat, Nat.shiftRight_zero]
  rw [← Nat.shiftLeft_add_eq_or_of_lt (Nat.mod_lt _ (by decide)), Nat.shiftRight_eq_div_pow, Nat.shiftLeft_eq]
  have := v.isLt
  omega

@[simp] theorem hi8_be16 (a b : Byte) : hi8 (be16 a b) = a := by
  simp only [be16, hi8]
  exact BitVec.extractLsb'_append_eq_left

@[simp] theorem lo8_be16 (a b : Byte) : lo8 (be16 a b) = b := by
  simp only [be16, lo8]
  exact BitVec.extractLsb'_append_eq_right

/-- `be16(a, b) = a * 256 + b` (spec/00_scope.md R9). -/
theorem be16_toNat (a b : Byte) : (be16 a b).toNat = a.toNat * 256 + b.toNat := by
  simp only [be16, BitVec.toNat_append]
  rw [← Nat.shiftLeft_add_eq_or_of_lt b.isLt, Nat.shiftLeft_eq]

theorem byteSum_append (s t : List Byte) : byteSum (s ++ t) = byteSum s + byteSum t := by
  induction s with
  | nil => simp [byteSum]
  | cons b u ih => simp only [List.cons_append, byteSum, ih]; omega

/-- Replacing one byte changes the sum by the difference. -/
theorem byteSum_set {f : List Byte} {k : Nat} (b : Byte) (hk : k < f.length) :
    byteSum (f.set k b) + (f.getD k 0).toNat = byteSum f + b.toNat := by
  induction f generalizing k with
  | nil => simp at hk
  | cons x t ih =>
    cases k with
    | zero => simp only [List.set_cons_zero, byteSum, List.getD_cons_zero]; omega
    | succ k =>
      have := ih (k := k) (by simpa using hk)
      simp only [List.set_cons_succ, byteSum, List.getD_cons_succ]
      omega

/-- The complement of 16 bits is the difference to all ones. -/
theorem xor_ones (x : U16) : x ^^^ 0xFFFF = 0xFFFF - x := by
  have h : x ^^^ 0xFFFF = ~~~x := by
    have : (0xFFFF : U16) = BitVec.allOnes 16 := rfl
    rw [this, BitVec.xor_allOnes]
  rw [h]
  apply BitVec.eq_of_toNat_eq
  have := x.isLt
  simp only [BitVec.toNat_not, BitVec.toNat_sub]
  simp
  omega

/-- VERIFY where the declared frame is held. -/
theorem verify_of_le {f : List Byte} (h : 7 + (f.getD 4 0).toNat ≤ f.length) :
    verify f = (cks (f.take (5 + (f.getD 4 0).toNat)) ==
      be16 (f.getD (5 + (f.getD 4 0).toNat) 0) (f.getD (6 + (f.getD 4 0).toNat) 0)) := by
  have h1 : ¬f.length < minFrame := by simp only [minFrame, hdrLen, cksLen]; omega
  have h2 : ¬f.length < expectedLen (f.getD 4 0) := by simp only [expectedLen, hdrLen, cksLen]; omega
  have h3 : hdrLen + (f.getD 4 0).toNat + 1 = 6 + (f.getD 4 0).toNat := by simp only [hdrLen]; omega
  rw [verify, if_neg h1]
  simp only [if_neg h2, h3]
  rfl

/-- VERIFY is false where the declared frame is not held. -/
theorem le_of_verify {f : List Byte} (h : verify f = true) : 7 + (f.getD 4 0).toNat ≤ f.length := by
  rw [verify] at h
  split at h
  · cases h
  · simp only at h
    split at h
    · cases h
    · next h1 => simp only [expectedLen, hdrLen, cksLen] at h1; omega

@[simp] theorem sealFrame_length (h : List Byte) : (sealFrame h).length = h.length + 2 := by simp [sealFrame]

end Sys2Proof.Machine
end

