-- ==== Sys2Proof/Laws/State.lean ====
section
/-! SUPPORT. One lemma for each field of State and each update of it: what the field holds afterwards. -/

namespace Sys2Proof.Machine

variable (s : State)

@[simp] theorem raise_cfg (c : Condition) : (raise c s).cfg = s.cfg := rfl
@[simp] theorem raise_env (c : Condition) : (raise c s).env = s.env := rfl
@[simp] theorem raise_link (c : Condition) : (raise c s).link = s.link := rfl
@[simp] theorem raise_buf (c : Condition) : (raise c s).buf = s.buf := rfl
@[simp] theorem raise_phase (c : Condition) : (raise c s).phase = s.phase := rfl
@[simp] theorem raise_entries (c : Condition) : (raise c s).entries = s.entries := rfl
@[simp] theorem raise_model (c : Condition) : (raise c s).model = s.model := rfl
@[simp] theorem raise_regs (c : Condition) : (raise c s).regs = s.regs := rfl
@[simp] theorem raise_snap (c : Condition) : (raise c s).snap = s.snap := rfl
@[simp] theorem raise_tx (c : Condition) : (raise c s).tx = s.tx := rfl
@[simp] theorem raise_persisted (c : Condition) : (raise c s).persisted = s.persisted := rfl
@[simp] theorem raise_returned (c : Condition) : (raise c s).returned = s.returned := rfl
@[simp] theorem raise_reads (c : Condition) : (raise c s).reads = s.reads := rfl
@[simp] theorem raise_scans (c : Condition) : (raise c s).scans = s.scans := rfl
@[simp] theorem raise_diag (c : Condition) : (raise c s).diag = s.diag ++ [c] := rfl

@[simp] theorem resync_cfg : (resync s).cfg = s.cfg := rfl
@[simp] theorem resync_env : (resync s).env = s.env := rfl
@[simp] theorem resync_link : (resync s).link = s.link := rfl
@[simp] theorem resync_buf : (resync s).buf = s.buf := rfl
@[simp] theorem resync_phase : (resync s).phase = s.phase := rfl
@[simp] theorem resync_entries : (resync s).entries = s.entries := rfl
@[simp] theorem resync_model : (resync s).model = s.model := rfl
@[simp] theorem resync_regs : (resync s).regs = s.regs := rfl
@[simp] theorem resync_snap : (resync s).snap = r2s s.model s.regs s.snap := rfl
@[simp] theorem resync_tx : (resync s).tx = s.tx := rfl
@[simp] theorem resync_persisted : (resync s).persisted = s.persisted := rfl
@[simp] theorem resync_returned : (resync s).returned = s.returned := rfl
@[simp] theorem resync_reads : (resync s).reads = s.reads := rfl
@[simp] theorem resync_scans : (resync s).scans = s.scans := rfl
@[simp] theorem resync_diag : (resync s).diag = s.diag := rfl

@[simp] theorem setReg_cfg (o : Obj) (x : U16) : (setReg o x s).cfg = s.cfg := rfl
@[simp] theorem setReg_env (o : Obj) (x : U16) : (setReg o x s).env = s.env := rfl
@[simp] theorem setReg_link (o : Obj) (x : U16) : (setReg o x s).link = s.link := rfl
@[simp] theorem setReg_buf (o : Obj) (x : U16) : (setReg o x s).buf = s.buf := rfl
@[simp] theorem setReg_phase (o : Obj) (x : U16) : (setReg o x s).phase = s.phase := rfl
@[simp] theorem setReg_entries (o : Obj) (x : U16) : (setReg o x s).entries = s.entries := rfl
@[simp] theorem setReg_model (o : Obj) (x : U16) : (setReg o x s).model = s.model := rfl
@[simp] theorem setReg_regs (o : Obj) (x : U16) : (setReg o x s).regs = bankWrite s.regs o x := rfl
@[simp] theorem setReg_snap (o : Obj) (x : U16) : (setReg o x s).snap = s.snap := rfl
@[simp] theorem setReg_tx (o : Obj) (x : U16) : (setReg o x s).tx = s.tx := rfl
@[simp] theorem setReg_persisted (o : Obj) (x : U16) : (setReg o x s).persisted = s.persisted := rfl
@[simp] theorem setReg_returned (o : Obj) (x : U16) : (setReg o x s).returned = s.returned := rfl
@[simp] theorem setReg_reads (o : Obj) (x : U16) : (setReg o x s).reads = s.reads := rfl
@[simp] theorem setReg_scans (o : Obj) (x : U16) : (setReg o x s).scans = s.scans := rfl
@[simp] theorem setReg_diag (o : Obj) (x : U16) : (setReg o x s).diag = s.diag := rfl

@[simp] theorem writePlain_cfg (o : Obj) (x : U16) : (writePlain o x s).cfg = s.cfg := rfl
@[simp] theorem writePlain_env (o : Obj) (x : U16) : (writePlain o x s).env = s.env := rfl
@[simp] theorem writePlain_link (o : Obj) (x : U16) : (writePlain o x s).link = s.link := rfl
@[simp] theorem writePlain_buf (o : Obj) (x : U16) : (writePlain o x s).buf = s.buf := rfl
@[simp] theorem writePlain_phase (o : Obj) (x : U16) : (writePlain o x s).phase = s.phase := rfl
@[simp] theorem writePlain_entries (o : Obj) (x : U16) : (writePlain o x s).entries = s.entries := rfl
@[simp] theorem writePlain_model (o : Obj) (x : U16) : (writePlain o x s).model = s.model := rfl
@[simp] theorem writePlain_regs (o : Obj) (x : U16) : (writePlain o x s).regs = bankWrite s.regs o x := rfl
@[simp] theorem writePlain_snap (o : Obj) (x : U16) : (writePlain o x s).snap = r2s s.model (bankWrite s.regs o x) s.snap := rfl
@[simp] theorem writePlain_tx (o : Obj) (x : U16) : (writePlain o x s).tx = s.tx := rfl
@[simp] theorem writePlain_persisted (o : Obj) (x : U16) : (writePlain o x s).persisted = s.persisted := rfl
@[simp] theorem writePlain_returned (o : Obj) (x : U16) : (writePlain o x s).returned = s.returned := rfl
@[simp] theorem writePlain_reads (o : Obj) (x : U16) : (writePlain o x s).reads = s.reads := rfl
@[simp] theorem writePlain_scans (o : Obj) (x : U16) : (writePlain o x s).scans = s.scans := rfl
@[simp] theorem writePlain_diag (o : Obj) (x : U16) : (writePlain o x s).diag = s.diag := rfl

@[simp] theorem appendEntry_cfg (e : List Byte) : (appendEntry e s).cfg = s.cfg := rfl
@[simp] theorem appendEntry_env (e : List Byte) : (appendEntry e s).env = s.env := rfl
@[simp] theorem appendEntry_link (e : List Byte) : (appendEntry e s).link = s.link := rfl
@[simp] theorem appendEntry_buf (e : List Byte) : (appendEntry e s).buf = s.buf := rfl
@[simp] theorem appendEntry_phase (e : List Byte) : (appendEntry e s).phase = s.phase := rfl
@[simp] theorem appendEntry_entries (e : List Byte) : (appendEntry e s).entries = s.entries ++ e := rfl
@[simp] theorem appendEntry_model (e : List Byte) : (appendEntry e s).model = s.model := rfl
@[simp] theorem appendEntry_regs (e : List Byte) : (appendEntry e s).regs = s.regs := rfl
@[simp] theorem appendEntry_snap (e : List Byte) : (appendEntry e s).snap = s.snap := rfl
@[simp] theorem appendEntry_tx (e : List Byte) : (appendEntry e s).tx = s.tx := rfl
@[simp] theorem appendEntry_persisted (e : List Byte) : (appendEntry e s).persisted = s.persisted := rfl
@[simp] theorem appendEntry_returned (e : List Byte) : (appendEntry e s).returned = s.returned := rfl
@[simp] theorem appendEntry_reads (e : List Byte) : (appendEntry e s).reads = s.reads := rfl
@[simp] theorem appendEntry_scans (e : List Byte) : (appendEntry e s).scans = s.scans := rfl
@[simp] theorem appendEntry_diag (e : List Byte) : (appendEntry e s).diag = s.diag := rfl

@[simp] theorem answerPoint_cfg (cls num : Byte) (st : U16) : (answerPoint cls num st s).cfg = s.cfg := rfl
@[simp] theorem answerPoint_env (cls num : Byte) (st : U16) : (answerPoint cls num st s).env = s.env := rfl
@[simp] theorem answerPoint_link (cls num : Byte) (st : U16) : (answerPoint cls num st s).link = s.link := rfl
@[simp] theorem answerPoint_buf (cls num : Byte) (st : U16) : (answerPoint cls num st s).buf = s.buf := rfl
@[simp] theorem answerPoint_phase (cls num : Byte) (st : U16) : (answerPoint cls num st s).phase = s.phase := rfl
@[simp] theorem answerPoint_entries (cls num : Byte) (st : U16) : (answerPoint cls num st s).entries = s.entries ++ statusEntry cls num st := rfl
@[simp] theorem answerPoint_model (cls num : Byte) (st : U16) : (answerPoint cls num st s).model = s.model := rfl
@[simp] theorem answerPoint_regs (cls num : Byte) (st : U16) : (answerPoint cls num st s).regs = s.regs := rfl
@[simp] theorem answerPoint_snap (cls num : Byte) (st : U16) : (answerPoint cls num st s).snap = s.snap := rfl
@[simp] theorem answerPoint_tx (cls num : Byte) (st : U16) : (answerPoint cls num st s).tx = s.tx := rfl
@[simp] theorem answerPoint_persisted (cls num : Byte) (st : U16) : (answerPoint cls num st s).persisted = s.persisted := rfl
@[simp] theorem answerPoint_returned (cls num : Byte) (st : U16) : (answerPoint cls num st s).returned = s.returned := rfl
@[simp] theorem answerPoint_reads (cls num : Byte) (st : U16) : (answerPoint cls num st s).reads = s.reads := rfl
@[simp] theorem answerPoint_scans (cls num : Byte) (st : U16) : (answerPoint cls num st s).scans = s.scans := rfl
@[simp] theorem answerPoint_diag (cls num : Byte) (st : U16) : (answerPoint cls num st s).diag = s.diag := rfl

@[simp] theorem respondWith_cfg (c : Byte) (a : Addr) (body : List Byte) : (respondWith c a body s).cfg = s.cfg := rfl
@[simp] theorem respondWith_env (c : Byte) (a : Addr) (body : List Byte) : (respondWith c a body s).env = s.env := rfl
@[simp] theorem respondWith_link (c : Byte) (a : Addr) (body : List Byte) : (respondWith c a body s).link = s.link := rfl
@[simp] theorem respondWith_buf (c : Byte) (a : Addr) (body : List Byte) : (respondWith c a body s).buf = s.buf := rfl
@[simp] theorem respondWith_phase (c : Byte) (a : Addr) (body : List Byte) : (respondWith c a body s).phase = .responding (response c a body) := rfl
@[simp] theorem respondWith_entries (c : Byte) (a : Addr) (body : List Byte) : (respondWith c a body s).entries = [] := rfl
@[simp] theorem respondWith_model (c : Byte) (a : Addr) (body : List Byte) : (respondWith c a body s).model = s.model := rfl
@[simp] theorem respondWith_regs (c : Byte) (a : Addr) (body : List Byte) : (respondWith c a body s).regs = s.regs := rfl
@[simp] theorem respondWith_snap (c : Byte) (a : Addr) (body : List Byte) : (respondWith c a body s).snap = s.snap := rfl
@[simp] theorem respondWith_tx (c : Byte) (a : Addr) (body : List Byte) : (respondWith c a body s).tx = s.tx := rfl
@[simp] theorem respondWith_persisted (c : Byte) (a : Addr) (body : List Byte) : (respondWith c a body s).persisted = s.persisted := rfl
@[simp] theorem respondWith_returned (c : Byte) (a : Addr) (body : List Byte) : (respondWith c a body s).returned = s.returned := rfl
@[simp] theorem respondWith_reads (c : Byte) (a : Addr) (body : List Byte) : (respondWith c a body s).reads = s.reads := rfl
@[simp] theorem respondWith_scans (c : Byte) (a : Addr) (body : List Byte) : (respondWith c a body s).scans = s.scans := rfl
@[simp] theorem respondWith_diag (c : Byte) (a : Addr) (body : List Byte) : (respondWith c a body s).diag = s.diag := rfl

@[simp] theorem respondQuery_cfg (a : Addr) : (respondQuery a s).cfg = s.cfg := rfl
@[simp] theorem respondQuery_env (a : Addr) : (respondQuery a s).env = s.env := rfl
@[simp] theorem respondQuery_link (a : Addr) : (respondQuery a s).link = s.link := rfl
@[simp] theorem respondQuery_buf (a : Addr) : (respondQuery a s).buf = s.buf := rfl
@[simp] theorem respondQuery_phase (a : Addr) : (respondQuery a s).phase = .responding (response 0x03 a (queryBody s.cfg s.entries)) := rfl
@[simp] theorem respondQuery_entries (a : Addr) : (respondQuery a s).entries = [] := rfl
@[simp] theorem respondQuery_model (a : Addr) : (respondQuery a s).model = s.model := rfl
@[simp] theorem respondQuery_regs (a : Addr) : (respondQuery a s).regs = s.regs := rfl
@[simp] theorem respondQuery_snap (a : Addr) : (respondQuery a s).snap = s.snap := rfl
@[simp] theorem respondQuery_tx (a : Addr) : (respondQuery a s).tx = s.tx := rfl
@[simp] theorem respondQuery_persisted (a : Addr) : (respondQuery a s).persisted = s.persisted := rfl
@[simp] theorem respondQuery_returned (a : Addr) : (respondQuery a s).returned = s.returned := rfl
@[simp] theorem respondQuery_reads (a : Addr) : (respondQuery a s).reads = s.reads := rfl
@[simp] theorem respondQuery_scans (a : Addr) : (respondQuery a s).scans = s.scans := rfl
@[simp] theorem respondQuery_diag (a : Addr) : (respondQuery a s).diag = s.diag := rfl

@[simp] theorem transmit_cfg (r : List Byte) : (transmit r s).cfg = s.cfg := rfl
@[simp] theorem transmit_env (r : List Byte) : (transmit r s).env = s.env := rfl
@[simp] theorem transmit_link (r : List Byte) : (transmit r s).link = s.link := rfl
@[simp] theorem transmit_buf (r : List Byte) : (transmit r s).buf = s.buf := rfl
@[simp] theorem transmit_phase (r : List Byte) : (transmit r s).phase = .reading := rfl
@[simp] theorem transmit_entries (r : List Byte) : (transmit r s).entries = s.entries := rfl
@[simp] theorem transmit_model (r : List Byte) : (transmit r s).model = s.model := rfl
@[simp] theorem transmit_regs (r : List Byte) : (transmit r s).regs = s.regs := rfl
@[simp] theorem transmit_snap (r : List Byte) : (transmit r s).snap = s.snap := rfl
@[simp] theorem transmit_tx (r : List Byte) : (transmit r s).tx = s.tx ++ [r] := rfl
@[simp] theorem transmit_persisted (r : List Byte) : (transmit r s).persisted = s.persisted := rfl
@[simp] theorem transmit_returned (r : List Byte) : (transmit r s).returned = s.returned := rfl
@[simp] theorem transmit_reads (r : List Byte) : (transmit r s).reads = s.reads := rfl
@[simp] theorem transmit_scans (r : List Byte) : (transmit r s).scans = s.scans := rfl
@[simp] theorem transmit_diag (r : List Byte) : (transmit r s).diag = s.diag := rfl

@[simp] theorem returnSnapshot_cfg : (returnSnapshot s).cfg = s.cfg := rfl
@[simp] theorem returnSnapshot_env : (returnSnapshot s).env = s.env := rfl
@[simp] theorem returnSnapshot_link : (returnSnapshot s).link = s.link := rfl
@[simp] theorem returnSnapshot_buf : (returnSnapshot s).buf = s.buf := rfl
@[simp] theorem returnSnapshot_phase : (returnSnapshot s).phase = s.phase := rfl
@[simp] theorem returnSnapshot_entries : (returnSnapshot s).entries = s.entries := rfl
@[simp] theorem returnSnapshot_model : (returnSnapshot s).model = s.model := rfl
@[simp] theorem returnSnapshot_regs : (returnSnapshot s).regs = s.regs := rfl
@[simp] theorem returnSnapshot_snap : (returnSnapshot s).snap = s.snap := rfl
@[simp] theorem returnSnapshot_tx : (returnSnapshot s).tx = s.tx := rfl
@[simp] theorem returnSnapshot_persisted : (returnSnapshot s).persisted = s.persisted := rfl
@[simp] theorem returnSnapshot_returned : (returnSnapshot s).returned = s.returned ++ [.snapshot s.snap] := rfl
@[simp] theorem returnSnapshot_reads : (returnSnapshot s).reads = s.reads := rfl
@[simp] theorem returnSnapshot_scans : (returnSnapshot s).scans = s.scans := rfl
@[simp] theorem returnSnapshot_diag : (returnSnapshot s).diag = s.diag := rfl

@[simp] theorem reject_cfg (op idx : Byte) (arg : U16) : (reject op idx arg s).cfg = s.cfg := rfl
@[simp] theorem reject_env (op idx : Byte) (arg : U16) : (reject op idx arg s).env = s.env := rfl
@[simp] theorem reject_link (op idx : Byte) (arg : U16) : (reject op idx arg s).link = s.link := rfl
@[simp] theorem reject_buf (op idx : Byte) (arg : U16) : (reject op idx arg s).buf = s.buf := rfl
@[simp] theorem reject_phase (op idx : Byte) (arg : U16) : (reject op idx arg s).phase = s.phase := rfl
@[simp] theorem reject_entries (op idx : Byte) (arg : U16) : (reject op idx arg s).entries = s.entries := rfl
@[simp] theorem reject_model (op idx : Byte) (arg : U16) : (reject op idx arg s).model = s.model := rfl
@[simp] theorem reject_regs (op idx : Byte) (arg : U16) : (reject op idx arg s).regs = s.regs := rfl
@[simp] theorem reject_snap (op idx : Byte) (arg : U16) : (reject op idx arg s).snap = s.snap := rfl
@[simp] theorem reject_tx (op idx : Byte) (arg : U16) : (reject op idx arg s).tx = s.tx := rfl
@[simp] theorem reject_persisted (op idx : Byte) (arg : U16) : (reject op idx arg s).persisted = s.persisted := rfl
@[simp] theorem reject_returned (op idx : Byte) (arg : U16) : (reject op idx arg s).returned = s.returned ++ [.snapshot s.snap] := rfl
@[simp] theorem reject_reads (op idx : Byte) (arg : U16) : (reject op idx arg s).reads = s.reads := rfl
@[simp] theorem reject_scans (op idx : Byte) (arg : U16) : (reject op idx arg s).scans = s.scans := rfl
@[simp] theorem reject_diag (op idx : Byte) (arg : U16) : (reject op idx arg s).diag = s.diag ++ [.invalidRequest op idx arg] := rfl

@[simp] theorem acceptWrite_cfg (o : Obj) (x : U16) (snap : Snapshot) : (acceptWrite o x snap s).cfg = s.cfg := rfl
@[simp] theorem acceptWrite_env (o : Obj) (x : U16) (snap : Snapshot) : (acceptWrite o x snap s).env = s.env := rfl
@[simp] theorem acceptWrite_link (o : Obj) (x : U16) (snap : Snapshot) : (acceptWrite o x snap s).link = s.link := rfl
@[simp] theorem acceptWrite_buf (o : Obj) (x : U16) (snap : Snapshot) : (acceptWrite o x snap s).buf = s.buf := rfl
@[simp] theorem acceptWrite_phase (o : Obj) (x : U16) (snap : Snapshot) : (acceptWrite o x snap s).phase = s.phase := rfl
@[simp] theorem acceptWrite_entries (o : Obj) (x : U16) (snap : Snapshot) : (acceptWrite o x snap s).entries = s.entries := rfl
@[simp] theorem acceptWrite_model (o : Obj) (x : U16) (snap : Snapshot) : (acceptWrite o x snap s).model = s.model := rfl
@[simp] theorem acceptWrite_regs (o : Obj) (x : U16) (snap : Snapshot) : (acceptWrite o x snap s).regs = bankWrite s.regs o x := rfl
@[simp] theorem acceptWrite_snap (o : Obj) (x : U16) (snap : Snapshot) : (acceptWrite o x snap s).snap = snap := rfl
@[simp] theorem acceptWrite_tx (o : Obj) (x : U16) (snap : Snapshot) : (acceptWrite o x snap s).tx = s.tx := rfl
@[simp] theorem acceptWrite_persisted (o : Obj) (x : U16) (snap : Snapshot) : (acceptWrite o x snap s).persisted = s.persisted := rfl
@[simp] theorem acceptWrite_returned (o : Obj) (x : U16) (snap : Snapshot) : (acceptWrite o x snap s).returned = s.returned ++ [.snapshot snap] := rfl
@[simp] theorem acceptWrite_reads (o : Obj) (x : U16) (snap : Snapshot) : (acceptWrite o x snap s).reads = s.reads := rfl
@[simp] theorem acceptWrite_scans (o : Obj) (x : U16) (snap : Snapshot) : (acceptWrite o x snap s).scans = s.scans := rfl
@[simp] theorem acceptWrite_diag (o : Obj) (x : U16) (snap : Snapshot) : (acceptWrite o x snap s).diag = s.diag := rfl

@[simp] theorem persist_cfg (m : Model) : (persist m s).cfg = s.cfg := rfl
@[simp] theorem persist_env (m : Model) : (persist m s).env = s.env := rfl
@[simp] theorem persist_link (m : Model) : (persist m s).link = s.link := rfl
@[simp] theorem persist_buf (m : Model) : (persist m s).buf = s.buf := rfl
@[simp] theorem persist_phase (m : Model) : (persist m s).phase = s.phase := rfl
@[simp] theorem persist_entries (m : Model) : (persist m s).entries = s.entries := rfl
@[simp] theorem persist_model (m : Model) : (persist m s).model = s.model := rfl
@[simp] theorem persist_regs (m : Model) : (persist m s).regs = s.regs := rfl
@[simp] theorem persist_snap (m : Model) : (persist m s).snap = s.snap := rfl
@[simp] theorem persist_tx (m : Model) : (persist m s).tx = s.tx := rfl
@[simp] theorem persist_persisted (m : Model) : (persist m s).persisted = s.persisted ++ [m] := rfl
@[simp] theorem persist_returned (m : Model) : (persist m s).returned = s.returned := rfl
@[simp] theorem persist_reads (m : Model) : (persist m s).reads = s.reads := rfl
@[simp] theorem persist_scans (m : Model) : (persist m s).scans = s.scans := rfl
@[simp] theorem persist_diag (m : Model) : (persist m s).diag = s.diag := rfl

@[simp] theorem push_cfg (c : List Byte) : (push c s).cfg = s.cfg := rfl
@[simp] theorem push_env (c : List Byte) : (push c s).env = s.env := rfl
@[simp] theorem push_link (c : List Byte) : (push c s).link = s.link := rfl
@[simp] theorem push_buf (c : List Byte) : (push c s).buf = s.buf ++ c := rfl
@[simp] theorem push_phase (c : List Byte) : (push c s).phase = .scanning := rfl
@[simp] theorem push_entries (c : List Byte) : (push c s).entries = s.entries := rfl
@[simp] theorem push_model (c : List Byte) : (push c s).model = s.model := rfl
@[simp] theorem push_regs (c : List Byte) : (push c s).regs = s.regs := rfl
@[simp] theorem push_snap (c : List Byte) : (push c s).snap = s.snap := rfl
@[simp] theorem push_tx (c : List Byte) : (push c s).tx = s.tx := rfl
@[simp] theorem push_persisted (c : List Byte) : (push c s).persisted = s.persisted := rfl
@[simp] theorem push_returned (c : List Byte) : (push c s).returned = s.returned := rfl
@[simp] theorem push_reads (c : List Byte) : (push c s).reads = s.reads := rfl
@[simp] theorem push_scans (c : List Byte) : (push c s).scans = s.scans := rfl
@[simp] theorem push_diag (c : List Byte) : (push c s).diag = s.diag := rfl

@[simp] theorem timeoutStep_cfg : (timeoutStep s).cfg = s.cfg := rfl
@[simp] theorem timeoutStep_env : (timeoutStep s).env = s.env := rfl
@[simp] theorem timeoutStep_link : (timeoutStep s).link = s.link := rfl
@[simp] theorem timeoutStep_buf : (timeoutStep s).buf = s.buf := rfl
@[simp] theorem timeoutStep_phase : (timeoutStep s).phase = s.phase := rfl
@[simp] theorem timeoutStep_entries : (timeoutStep s).entries = s.entries := rfl
@[simp] theorem timeoutStep_model : (timeoutStep s).model = s.model := rfl
@[simp] theorem timeoutStep_regs : (timeoutStep s).regs = s.regs := rfl
@[simp] theorem timeoutStep_snap : (timeoutStep s).snap = s.snap := rfl
@[simp] theorem timeoutStep_tx : (timeoutStep s).tx = s.tx := rfl
@[simp] theorem timeoutStep_persisted : (timeoutStep s).persisted = s.persisted := rfl
@[simp] theorem timeoutStep_returned : (timeoutStep s).returned = s.returned := rfl
@[simp] theorem timeoutStep_reads : (timeoutStep s).reads = s.reads ++ [.timedOut] := rfl
@[simp] theorem timeoutStep_scans : (timeoutStep s).scans = s.scans := rfl
@[simp] theorem timeoutStep_diag : (timeoutStep s).diag = s.diag := rfl

end Sys2Proof.Machine
end

