-- ==== Sys2Proof/Laws/Ops.lean ====
section
/-! SUPPORT. For each shared operation one lemma that says once everything it can do; provers cite it instead of unfolding the
operation. -/

namespace Sys2Proof.Machine

/-- A wire write to a per-vane register stores and recomputes, or raises VaneUnsupported and does nothing else. -/
theorem writeVane_cases (g : VaneGroup) (v : Vane) (val : U16) (s : State) :
    (sup s.cfg s.model g.axis v = true ∧ writeVane g v val s = writePlain (.vane g v) (vaneValue s.cfg s.model g val) s) ∨
      (sup s.cfg s.model g.axis v = false ∧ writeVane g v val s = raise (.vaneUnsupported (objId (.vane g v))) s) := by
  unfold writeVane
  cases h : sup s.cfg s.model g.axis v
  · exact .inr ⟨rfl, rfl⟩
  · exact .inl ⟨rfl, rfl⟩

/-- A wire write outside the registry stores into a register of EXTRA_OBJ, or raises UnknownObject and does nothing else. -/
theorem writeOther_cases (id val : U16) (s : State) :
    (id ∈ s.cfg.extraObj ∧ writeOther id val s = writePlain (.extra id) val s) ∨
      (id ∉ s.cfg.extraObj ∧ writeOther id val s = raise (.unknownObject id) s) := by
  unfold writeOther
  by_cases h : id ∈ s.cfg.extraObj
  · exact .inl ⟨h, if_pos h⟩
  · exact .inr ⟨h, if_neg h⟩

/-- Whatever a wire write does, it writes one register of OBJ and recomputes the snapshot, or raises one condition. -/
theorem writeObj_cases (id val : U16) (s : State) :
    (∃ o x, (o ∈ registry ∨ ∃ e ∈ s.cfg.extraObj, o = .extra e) ∧ writeObj id val s = writePlain o x s) ∨
      ∃ c, writeObj id val s = raise c s := by
  unfold writeObj
  split
  · next g v h =>
    rcases writeVane_cases g v val s with ⟨-, h'⟩ | ⟨-, h'⟩
    · exact .inl ⟨_, _, .inl (objId_of_registryFind h).2, h'⟩
    · exact .inr ⟨_, h'⟩
  · next o h =>
    exact .inl ⟨_, _, .inl (objId_of_registryFind h).2, rfl⟩
  · rcases writeOther_cases id val s with ⟨h, h'⟩ | ⟨-, h'⟩
    · exact .inl ⟨_, _, .inr ⟨id, h, rfl⟩, h'⟩
    · exact .inr ⟨_, h'⟩

/-- A wire write to the id of a per-vane register. -/
theorem writeObj_vane (g : VaneGroup) (v : Vane) (val : U16) (s : State) :
    writeObj (objId (.vane g v)) val s = writeVane g v val s := by
  rw [writeObj, registryFind_objId (mem_registry.mpr (by simp))]

/-- A wire write to the id of a plain register of the registry. -/
theorem writeObj_plain {o : Obj} (ho : o ∈ plainRegistry) (val : U16) (s : State) :
    writeObj (objId o) val s = writePlain o val s := by
  have hr : o ∈ registry := List.mem_append_left _ ho
  have hv : ∀ g v, o ≠ .vane g v := by
    rintro g v rfl
    simp [plainRegistry] at ho
  rw [writeObj, registryFind_objId hr]
  split
  · next g v h => exact absurd (Option.some.inj h) (hv g v)
  · next p _ h => rw [Option.some.inj h]
  · next h => cases h

/-- A wire write to an id outside the registry. -/
theorem writeObj_outside {id : U16} (h : id ∉ registryIds) (val : U16) (s : State) : writeObj id val s = writeOther id val s := by
  rw [writeObj, registryFind_eq_none.mpr h]

/-- A wire write changes nothing but the registers, the snapshot and the diagnostics. -/
theorem writeObj_frame (id val : U16) (s : State) :
    writeObj id val s =
      { s with regs := (writeObj id val s).regs, snap := (writeObj id val s).snap, diag := (writeObj id val s).diag } := by
  rcases writeObj_cases id val s with ⟨o, x, -, h⟩ | ⟨c, h⟩ <;> rw [h] <;> rfl

/-- Changes to the registers, the snapshot and the diagnostics compose. -/
theorem device_frame_trans {s t u : State} (h : t = { s with regs := t.regs, snap := t.snap, diag := t.diag })
    (h' : u = { t with regs := u.regs, snap := u.snap, diag := u.diag }) :
    u = { s with regs := u.regs, snap := u.snap, diag := u.diag } := by
  rw [h] at h'
  exact h'

/-- A CMD2 payload changes nothing but the registers, the snapshot and the diagnostics. -/
theorem writePairs_frame (p : List Byte) (s : State) :
    writePairs p s =
      { s with regs := (writePairs p s).regs, snap := (writePairs p s).snap, diag := (writePairs p s).diag } := by
  fun_induction writePairs p s with
  | case1 p0 p1 p2 p3 rest s ih => exact device_frame_trans (writeObj_frame (be16 p0 p1) (be16 p2 p3) s) ih
  | case2 => rfl

/-- One object-mode read adds one entry, and may raise UnknownObject. -/
theorem readObject_cases (id : U16) (s : State) :
    (∃ o, objFind s.cfg.extraObj id = some o ∧
        readObject id s = { s with entries := s.entries ++ objectEntry id (bankRead s.regs o) }) ∨
      (objFind s.cfg.extraObj id = none ∧
        readObject id s =
          { s with entries := s.entries ++ objectEntry id 0, diag := s.diag ++ [.unknownObject id] }) := by
  unfold readObject
  split
  · next o h => exact .inl ⟨o, h, rfl⟩
  · next h => exact .inr ⟨h, rfl⟩

/-- One object-mode read changes nothing but the entries and the diagnostics. -/
theorem readObject_frame (id : U16) (s : State) :
    readObject id s = { s with entries := (readObject id s).entries, diag := (readObject id s).diag } := by
  rcases readObject_cases id s with ⟨o, -, h⟩ | ⟨-, h⟩ <;> rw [h]

/-- One object-mode read adds four bytes. -/
theorem readObject_entries_length (id : U16) (s : State) : (readObject id s).entries.length = s.entries.length + 4 := by
  rcases readObject_cases id s with ⟨o, -, h⟩ | ⟨-, h⟩ <;> rw [h] <;> simp [objectEntry]

/-- A command's meaning goes on exactly when its payload is at most LEN_MAX bytes long. -/
theorem guardLength_eq_next {p : List Byte} {s t : State} : guardLength p s = .next t ↔ p.length ≤ lenMax ∧ s = t := by
  unfold guardLength
  split
  · next h => simp [h]
  · next h => simp [h]

/-- A command's meaning never faults; it refuses exactly a payload longer than LEN_MAX. -/
theorem guardLength_of_le {p : List Byte} (h : p.length ≤ lenMax) (s : State) : guardLength p s = .next s := if_pos h

theorem guardLength_of_gt {p : List Byte} (h : lenMax < p.length) (s : State) : guardLength p s = .refused .payloadTooLong :=
  if_neg (Nat.not_le.mpr h)

/-- The vane of an index. -/
theorem vaneOfIndex_eq_some {n : Nat} {v : Vane} : vaneOfIndex n = some v ↔ vaneIndex v = n := by
  unfold vaneOfIndex vaneIndex
  constructor
  · intro h
    split at h
    · cases h; rfl
    · cases h
  · rintro rfl
    exact dif_pos v.isLt

/-- The vane a per-vane setter addresses. -/
theorem vaneArg_eq_some {c : Config} {m : Model} {x : Axis} {idx : Byte} {v : Vane} :
    vaneArg c m x idx = some v ↔ vaneIndex v = idx.toNat ∧ sup c m x v = true := by
  unfold vaneArg
  split
  · next w h =>
    have hw := vaneOfIndex_eq_some.mp h
    constructor
    · intro h'
      split at h'
      · next hs => cases h'; exact ⟨hw, hs⟩
      · cases h'
    · rintro ⟨hv, hs⟩
      have : v = w := by
        have := vaneOfIndex_eq_some.mpr hv
        rw [h] at this
        exact (Option.some.inj this).symm
      subst this
      rw [if_pos hs]
  · next h =>
    constructor
    · intro h'; cases h'
    · rintro ⟨hv, -⟩
      rw [vaneOfIndex_eq_some.mpr hv] at h
      cases h

/-- The clamp of a position into 1 up to a step count of at least 1 (spec/44_capability.md R164). -/
theorem clamp_toNat {p S : U16} (h : 1 ≤ S.toNat) : (clamp p S).toNat = min (max p.toNat 1) S.toNat := by
  unfold clamp
  split
  · next h1 => simp; omega
  · split
    · omega
    · omega

/-- Power is on when ONOFF is not 0 (spec/45_state_sync.md R178). -/
theorem powerOf_eq (b : Bank) : powerOf b = decide (b.onoff ≠ 0) := by
  unfold powerOf
  by_cases h : b.onoff = 0
  · rw [h]; rfl
  · rw [decide_eq_true h]
    exact bne_iff_ne.mpr h

/-- R2S always assigns power, swing and model. -/
theorem r2s_power (m : Model) (b : Bank) (s : Snapshot) : (r2s m b s).power = powerOf b := rfl

theorem r2s_swing (m : Model) (b : Bank) (s : Snapshot) : (r2s m b s).swing = swingOf b := rfl

theorem r2s_model (m : Model) (b : Bank) (s : Snapshot) : (r2s m b s).model = m := rfl

/-- Swing is the OR over SWINGSET (spec/45_state_sync.md R181). -/
theorem swingOf_eq_true {b : Bank} : swingOf b = true ↔ ∃ o ∈ swingSet, bankRead b o ≠ 0 := by
  simp [swingOf, List.any_eq_true]

/-- R2S reads seven things of the registers and nothing else of them. -/
theorem r2s_congr {m : Model} {b b' : Bank} {s : Snapshot} (h1 : b'.onoff = b.onoff) (h2 : b'.mode = b.mode)
    (h3 : b'.setpt = b.setpt) (h4 : b'.fan = b.fan) (h5 : b'.roomt = b.roomt) (h6 : swingOf b' = swingOf b) :
    r2s m b' s = r2s m b s := by
  simp only [r2s, powerOf, h1, h2, h3, h4, h5, h6]

end Sys2Proof.Machine
end

