-- ==== Sys2Proof/Laws/PerInstr.lean ====
section
/-! SUPPORT. The family MatchesTableRow: the encoding of every instruction has the fixed bits of its own row of
spec/opcode_table.json. -/

namespace Sys2Proof.Laws

open Sys2Proof.Machine

/-- The 40-bit header of a frame, first byte leftmost (spec/30_encoding.md R56). -/
def headerWord (f : List Byte) : BitVec 40 :=
  f.getD 0 0 ++ (f.getD 1 0 ++ (f.getD 2 0 ++ (f.getD 3 0 ++ f.getD 4 0)))

/-- The mask and the match of an instruction's row of spec/opcode_table.json. -/
def tableRow (i : Instr) : Nat × Nat :=
  match i with
  | .cmd0 _ _ => (0xFF00000000, 0x0000000000)
  | .cmd1 _ _ => (0xFF00000000, 0x0100000000)
  | .cmd2 _ _ => (0xFF00000000, 0x0200000000)
  | .cmd3Obj _ _ => (0xFF00000000, 0x0300000000)
  | .cmd3Cls _ _ => (0xFF00000000, 0x0300000000)
  | .wrOnoff _ => (0xFFFF0000, 0x10000000)
  | .wrMode _ => (0xFFFF0000, 0x10010000)
  | .wrSetpt _ => (0xFFFF0000, 0x10020000)
  | .wrFan _ => (0xFFFF0000, 0x10030000)
  | .wrVdirG _ => (0xFFFF0000, 0x10100000)
  | .wrVswgG _ => (0xFFFF0000, 0x10110000)
  | .wrHdirG _ => (0xFFFF0000, 0x10220000)
  | .wrHswgG _ => (0xFFFF0000, 0x10230000)
  | .wrErr0 _ => (0xFFFF0000, 0x10300000)
  | .wrErr1 _ => (0xFFFF0000, 0x10310000)
  | .wrRoomt _ => (0xFFFF0000, 0x10330000)
  | .wrEcon _ => (0xFFFF0000, 0x11000000)
  | .wrVdir0 _ => (0xFFFF0000, 0x10120000)
  | .wrVdir1 _ => (0xFFFF0000, 0x10140000)
  | .wrVdir2 _ => (0xFFFF0000, 0x10160000)
  | .wrVdir3 _ => (0xFFFF0000, 0x10180000)
  | .wrVswg0 _ => (0xFFFF0000, 0x10130000)
  | .wrVswg1 _ => (0xFFFF0000, 0x10150000)
  | .wrVswg2 _ => (0xFFFF0000, 0x10170000)
  | .wrVswg3 _ => (0xFFFF0000, 0x10190000)
  | .wrXvpos0 _ => (0xFFFF0000, 0x01320000)
  | .wrXvpos1 _ => (0xFFFF0000, 0x01330000)
  | .wrXvpos2 _ => (0xFFFF0000, 0x01340000)
  | .wrXvpos3 _ => (0xFFFF0000, 0x01350000)
  | .wrXvswg0 _ => (0xFFFF0000, 0x103A0000)
  | .wrXvswg1 _ => (0xFFFF0000, 0x103B0000)
  | .wrXvswg2 _ => (0xFFFF0000, 0x103C0000)
  | .wrXvswg3 _ => (0xFFFF0000, 0x103D0000)
  | .wrXhpos0 _ => (0xFFFF0000, 0x01440000)
  | .wrXhpos1 _ => (0xFFFF0000, 0x01450000)
  | .wrXhpos2 _ => (0xFFFF0000, 0x01460000)
  | .wrXhpos3 _ => (0xFFFF0000, 0x01470000)
  | .wrXhswg0 _ => (0xFFFF0000, 0x01480000)
  | .wrXhswg1 _ => (0xFFFF0000, 0x01490000)
  | .wrXhswg2 _ => (0xFFFF0000, 0x014A0000)
  | .wrXhswg3 _ => (0xFFFF0000, 0x014B0000)
  | .wrUnknown _ _ => (0x00000000, 0x00000000)
  | .qryCap01 => (0xFFFF, 0x0101)
  | .qryXvpos0 => (0xFFFF, 0x0132)
  | .qryXvpos1 => (0xFFFF, 0x0133)
  | .qryXvpos2 => (0xFFFF, 0x0134)
  | .qryXvpos3 => (0xFFFF, 0x0135)
  | .qryXhpos0 => (0xFFFF, 0x0144)
  | .qryXhpos1 => (0xFFFF, 0x0145)
  | .qryXhpos2 => (0xFFFF, 0x0146)
  | .qryXhpos3 => (0xFFFF, 0x0147)
  | .qryXhswg0 => (0xFFFF, 0x0148)
  | .qryXhswg1 => (0xFFFF, 0x0149)
  | .qryXhswg2 => (0xFFFF, 0x014A)
  | .qryXhswg3 => (0xFFFF, 0x014B)
  | .qryProto _ => (0xFF00, 0x0000)
  | .qryCap _ => (0xFF00, 0x0100)
  | .qryReg _ => (0xFF00, 0x1000)
  | .qryEcon _ => (0xFF00, 0x1100)
  | .qryNone _ _ => (0x0000, 0x0000)
  | .getState _ _ => (0xFF000000, 0x00000000)
  | .setPower _ _ => (0xFF000000, 0x01000000)
  | .setMode _ _ => (0xFF000000, 0x02000000)
  | .setTemp _ _ => (0xFF000000, 0x03000000)
  | .setFan _ _ => (0xFF000000, 0x04000000)
  | .setSwing _ _ => (0xFF000000, 0x05000000)
  | .setRoomTemp _ _ => (0xFF000000, 0x06000000)
  | .setModel _ _ => (0xFF000000, 0x07000000)
  | .getCaps _ _ => (0xFF000000, 0x08000000)
  | .setVvanePos _ _ => (0xFF000000, 0x09000000)
  | .setVvaneSwing _ _ => (0xFF000000, 0x0A000000)
  | .setHvanePos _ _ => (0xFF000000, 0x0B000000)
  | .setHvaneSwing _ _ => (0xFF000000, 0x0C000000)
  | .hostInvalid _ _ _ => (0x00000000, 0x00000000)

/-- A frame header with its command byte fixed. -/
theorem headerWord_and (c a1 a2 a3 n : Byte) (m k : BitVec 40) (hm : m = 0xFF#8 ++ 0#32) (hk : k = c ++ 0#32) :
    (c ++ (a1 ++ (a2 ++ (a3 ++ n))) : BitVec 40) &&& m = k := by
  rw [hm, hk, BitVec.and_append]
  simp only [BitVec.and_zero]
  congr 1
  exact BitVec.and_allOnes

/-- A pair word with its object id fixed. -/
theorem pairWord_and (id val : U16) (m k : BitVec 32) (hm : m = 0xFFFF#16 ++ 0#16) (hk : k = id ++ 0#16) :
    (id ++ val : BitVec 32) &&& m = k := by
  rw [hm, hk, BitVec.and_append]
  simp only [BitVec.and_zero]
  congr 1
  exact BitVec.and_allOnes

/-- A class/number word with its class fixed. -/
theorem pointWord_and (cls num : Byte) (m k : BitVec 16) (hm : m = 0xFF#8 ++ 0#8) (hk : k = cls ++ 0#8) :
    (cls ++ num : BitVec 16) &&& m = k := by
  rw [hm, hk, BitVec.and_append]
  simp only [BitVec.and_zero]
  congr 1
  exact BitVec.and_allOnes

/-- A host operation word with its code fixed. -/
theorem hostWord_and (op idx : Byte) (arg : U16) (m k : BitVec 32) (hm : m = (0xFF#8 ++ 0#8) ++ 0#16)
    (hk : k = (op ++ 0#8) ++ 0#16) : ((op ++ idx) ++ arg : BitVec 32) &&& m = k := by
  rw [hm, hk, BitVec.and_append, pointWord_and op idx _ _ rfl rfl]
  simp only [BitVec.and_zero]

namespace MatchesTableRow

/-- The encoding of the instruction, under the mask of its row, is the match of its row. -/
def Statement (i : Instr) : Prop :=
  match encode i with
  | .frame f => headerWord f &&& BitVec.ofNat 40 (tableRow i).1 = BitVec.ofNat 40 (tableRow i).2
  | .pair w => w &&& BitVec.ofNat 32 (tableRow i).1 = BitVec.ofNat 32 (tableRow i).2
  | .clsnum w => w &&& BitVec.ofNat 16 (tableRow i).1 = BitVec.ofNat 16 (tableRow i).2
  | .host w => w &&& BitVec.ofNat 32 (tableRow i).1 = BitVec.ofNat 32 (tableRow i).2

theorem cmd0 (addr : Addr) (payload : List Byte) : Statement (.cmd0 addr payload) := headerWord_and 0x0#8 addr.a1 addr.a2 addr.a3 (BitVec.ofNat 8 payload.length) 0xFF00000000#40 0x0000000000#40 (by decide) (by decide)

theorem cmd1 (addr : Addr) (payload : List Byte) : Statement (.cmd1 addr payload) := headerWord_and 0x1#8 addr.a1 addr.a2 addr.a3 (BitVec.ofNat 8 payload.length) 0xFF00000000#40 0x0100000000#40 (by decide) (by decide)

theorem cmd2 (addr : Addr) (payload : List Byte) : Statement (.cmd2 addr payload) := headerWord_and 0x2#8 addr.a1 addr.a2 addr.a3 (BitVec.ofNat 8 payload.length) 0xFF00000000#40 0x0200000000#40 (by decide) (by decide)

theorem cmd3Obj (addr : Addr) (payload : List Byte) : Statement (.cmd3Obj addr payload) := headerWord_and 0x3#8 addr.a1 addr.a2 addr.a3 (BitVec.ofNat 8 payload.length) 0xFF00000000#40 0x0300000000#40 (by decide) (by decide)

theorem cmd3Cls (addr : Addr) (payload : List Byte) : Statement (.cmd3Cls addr payload) := headerWord_and 0x3#8 addr.a1 addr.a2 addr.a3 (BitVec.ofNat 8 payload.length) 0xFF00000000#40 0x0300000000#40 (by decide) (by decide)

theorem wrOnoff (val : U16) : Statement (.wrOnoff val) := pairWord_and 0x1000#16 val 0xFFFF0000#32 0x10000000#32 (by decide) (by decide)

theorem wrMode (val : U16) : Statement (.wrMode val) := pairWord_and 0x1001#16 val 0xFFFF0000#32 0x10010000#32 (by decide) (by decide)

theorem wrSetpt (val : U16) : Statement (.wrSetpt val) := pairWord_and 0x1002#16 val 0xFFFF0000#32 0x10020000#32 (by decide) (by decide)

theorem wrFan (val : U16) : Statement (.wrFan val) := pairWord_and 0x1003#16 val 0xFFFF0000#32 0x10030000#32 (by decide) (by decide)

theorem wrVdirG (val : U16) : Statement (.wrVdirG val) := pairWord_and 0x1010#16 val 0xFFFF0000#32 0x10100000#32 (by decide) (by decide)

theorem wrVswgG (val : U16) : Statement (.wrVswgG val) := pairWord_and 0x1011#16 val 0xFFFF0000#32 0x10110000#32 (by decide) (by decide)

theorem wrHdirG (val : U16) : Statement (.wrHdirG val) := pairWord_and 0x1022#16 val 0xFFFF0000#32 0x10220000#32 (by decide) (by decide)

theorem wrHswgG (val : U16) : Statement (.wrHswgG val) := pairWord_and 0x1023#16 val 0xFFFF0000#32 0x10230000#32 (by decide) (by decide)

theorem wrErr0 (val : U16) : Statement (.wrErr0 val) := pairWord_and 0x1030#16 val 0xFFFF0000#32 0x10300000#32 (by decide) (by decide)

theorem wrErr1 (val : U16) : Statement (.wrErr1 val) := pairWord_and 0x1031#16 val 0xFFFF0000#32 0x10310000#32 (by decide) (by decide)

theorem wrRoomt (val : U16) : Statement (.wrRoomt val) := pairWord_and 0x1033#16 val 0xFFFF0000#32 0x10330000#32 (by decide) (by decide)

theorem wrEcon (val : U16) : Statement (.wrEcon val) := pairWord_and 0x1100#16 val 0xFFFF0000#32 0x11000000#32 (by decide) (by decide)

theorem wrVdir0 (val : U16) : Statement (.wrVdir0 val) := pairWord_and 0x1012#16 val 0xFFFF0000#32 0x10120000#32 (by decide) (by decide)

theorem wrVdir1 (val : U16) : Statement (.wrVdir1 val) := pairWord_and 0x1014#16 val 0xFFFF0000#32 0x10140000#32 (by decide) (by decide)

theorem wrVdir2 (val : U16) : Statement (.wrVdir2 val) := pairWord_and 0x1016#16 val 0xFFFF0000#32 0x10160000#32 (by decide) (by decide)

theorem wrVdir3 (val : U16) : Statement (.wrVdir3 val) := pairWord_and 0x1018#16 val 0xFFFF0000#32 0x10180000#32 (by decide) (by decide)

theorem wrVswg0 (val : U16) : Statement (.wrVswg0 val) := pairWord_and 0x1013#16 val 0xFFFF0000#32 0x10130000#32 (by decide) (by decide)

theorem wrVswg1 (val : U16) : Statement (.wrVswg1 val) := pairWord_and 0x1015#16 val 0xFFFF0000#32 0x10150000#32 (by decide) (by decide)

theorem wrVswg2 (val : U16) : Statement (.wrVswg2 val) := pairWord_and 0x1017#16 val 0xFFFF0000#32 0x10170000#32 (by decide) (by decide)

theorem wrVswg3 (val : U16) : Statement (.wrVswg3 val) := pairWord_and 0x1019#16 val 0xFFFF0000#32 0x10190000#32 (by decide) (by decide)

theorem wrXvpos0 (val : U16) : Statement (.wrXvpos0 val) := pairWord_and 0x132#16 val 0xFFFF0000#32 0x01320000#32 (by decide) (by decide)

theorem wrXvpos1 (val : U16) : Statement (.wrXvpos1 val) := pairWord_and 0x133#16 val 0xFFFF0000#32 0x01330000#32 (by decide) (by decide)

theorem wrXvpos2 (val : U16) : Statement (.wrXvpos2 val) := pairWord_and 0x134#16 val 0xFFFF0000#32 0x01340000#32 (by decide) (by decide)

theorem wrXvpos3 (val : U16) : Statement (.wrXvpos3 val) := pairWord_and 0x135#16 val 0xFFFF0000#32 0x01350000#32 (by decide) (by decide)

theorem wrXvswg0 (val : U16) : Statement (.wrXvswg0 val) := pairWord_and 0x103a#16 val 0xFFFF0000#32 0x103A0000#32 (by decide) (by decide)

theorem wrXvswg1 (val : U16) : Statement (.wrXvswg1 val) := pairWord_and 0x103b#16 val 0xFFFF0000#32 0x103B0000#32 (by decide) (by decide)

theorem wrXvswg2 (val : U16) : Statement (.wrXvswg2 val) := pairWord_and 0x103c#16 val 0xFFFF0000#32 0x103C0000#32 (by decide) (by decide)

theorem wrXvswg3 (val : U16) : Statement (.wrXvswg3 val) := pairWord_and 0x103d#16 val 0xFFFF0000#32 0x103D0000#32 (by decide) (by decide)

theorem wrXhpos0 (val : U16) : Statement (.wrXhpos0 val) := pairWord_and 0x144#16 val 0xFFFF0000#32 0x01440000#32 (by decide) (by decide)

theorem wrXhpos1 (val : U16) : Statement (.wrXhpos1 val) := pairWord_and 0x145#16 val 0xFFFF0000#32 0x01450000#32 (by decide) (by decide)

theorem wrXhpos2 (val : U16) : Statement (.wrXhpos2 val) := pairWord_and 0x146#16 val 0xFFFF0000#32 0x01460000#32 (by decide) (by decide)

theorem wrXhpos3 (val : U16) : Statement (.wrXhpos3 val) := pairWord_and 0x147#16 val 0xFFFF0000#32 0x01470000#32 (by decide) (by decide)

theorem wrXhswg0 (val : U16) : Statement (.wrXhswg0 val) := pairWord_and 0x148#16 val 0xFFFF0000#32 0x01480000#32 (by decide) (by decide)

theorem wrXhswg1 (val : U16) : Statement (.wrXhswg1 val) := pairWord_and 0x149#16 val 0xFFFF0000#32 0x01490000#32 (by decide) (by decide)

theorem wrXhswg2 (val : U16) : Statement (.wrXhswg2 val) := pairWord_and 0x14a#16 val 0xFFFF0000#32 0x014A0000#32 (by decide) (by decide)

theorem wrXhswg3 (val : U16) : Statement (.wrXhswg3 val) := pairWord_and 0x14b#16 val 0xFFFF0000#32 0x014B0000#32 (by decide) (by decide)

theorem wrUnknown (id : U16) (val : U16) : Statement (.wrUnknown id val) := BitVec.and_zero

theorem qryCap01 : Statement .qryCap01 := rfl

theorem qryXvpos0 : Statement .qryXvpos0 := rfl

theorem qryXvpos1 : Statement .qryXvpos1 := rfl

theorem qryXvpos2 : Statement .qryXvpos2 := rfl

theorem qryXvpos3 : Statement .qryXvpos3 := rfl

theorem qryXhpos0 : Statement .qryXhpos0 := rfl

theorem qryXhpos1 : Statement .qryXhpos1 := rfl

theorem qryXhpos2 : Statement .qryXhpos2 := rfl

theorem qryXhpos3 : Statement .qryXhpos3 := rfl

theorem qryXhswg0 : Statement .qryXhswg0 := rfl

theorem qryXhswg1 : Statement .qryXhswg1 := rfl

theorem qryXhswg2 : Statement .qryXhswg2 := rfl

theorem qryXhswg3 : Statement .qryXhswg3 := rfl

theorem qryProto (num : Byte) : Statement (.qryProto num) := pointWord_and 0x0#8 num 0xFF00#16 0x0000#16 (by decide) (by decide)

theorem qryCap (num : Byte) : Statement (.qryCap num) := pointWord_and 0x1#8 num 0xFF00#16 0x0100#16 (by decide) (by decide)

theorem qryReg (num : Byte) : Statement (.qryReg num) := pointWord_and 0x10#8 num 0xFF00#16 0x1000#16 (by decide) (by decide)

theorem qryEcon (num : Byte) : Statement (.qryEcon num) := pointWord_and 0x11#8 num 0xFF00#16 0x1100#16 (by decide) (by decide)

theorem qryNone (cls : Byte) (num : Byte) : Statement (.qryNone cls num) := BitVec.and_zero

theorem getState (idx : Byte) (arg : U16) : Statement (.getState idx arg) := hostWord_and 0x0#8 idx arg 0xFF000000#32 0x00000000#32 (by decide) (by decide)

theorem setPower (idx : Byte) (arg : U16) : Statement (.setPower idx arg) := hostWord_and 0x1#8 idx arg 0xFF000000#32 0x01000000#32 (by decide) (by decide)

theorem setMode (idx : Byte) (arg : U16) : Statement (.setMode idx arg) := hostWord_and 0x2#8 idx arg 0xFF000000#32 0x02000000#32 (by decide) (by decide)

theorem setTemp (idx : Byte) (arg : U16) : Statement (.setTemp idx arg) := hostWord_and 0x3#8 idx arg 0xFF000000#32 0x03000000#32 (by decide) (by decide)

theorem setFan (idx : Byte) (arg : U16) : Statement (.setFan idx arg) := hostWord_and 0x4#8 idx arg 0xFF000000#32 0x04000000#32 (by decide) (by decide)

theorem setSwing (idx : Byte) (arg : U16) : Statement (.setSwing idx arg) := hostWord_and 0x5#8 idx arg 0xFF000000#32 0x05000000#32 (by decide) (by decide)

theorem setRoomTemp (idx : Byte) (arg : U16) : Statement (.setRoomTemp idx arg) := hostWord_and 0x6#8 idx arg 0xFF000000#32 0x06000000#32 (by decide) (by decide)

theorem setModel (idx : Byte) (arg : U16) : Statement (.setModel idx arg) := hostWord_and 0x7#8 idx arg 0xFF000000#32 0x07000000#32 (by decide) (by decide)

theorem getCaps (idx : Byte) (arg : U16) : Statement (.getCaps idx arg) := hostWord_and 0x8#8 idx arg 0xFF000000#32 0x08000000#32 (by decide) (by decide)

theorem setVvanePos (idx : Byte) (arg : U16) : Statement (.setVvanePos idx arg) := hostWord_and 0x9#8 idx arg 0xFF000000#32 0x09000000#32 (by decide) (by decide)

theorem setVvaneSwing (idx : Byte) (arg : U16) : Statement (.setVvaneSwing idx arg) := hostWord_and 0xa#8 idx arg 0xFF000000#32 0x0A000000#32 (by decide) (by decide)

theorem setHvanePos (idx : Byte) (arg : U16) : Statement (.setHvanePos idx arg) := hostWord_and 0xb#8 idx arg 0xFF000000#32 0x0B000000#32 (by decide) (by decide)

theorem setHvaneSwing (idx : Byte) (arg : U16) : Statement (.setHvaneSwing idx arg) := hostWord_and 0xc#8 idx arg 0xFF000000#32 0x0C000000#32 (by decide) (by decide)

theorem hostInvalid (op : Byte) (idx : Byte) (arg : U16) : Statement (.hostInvalid op idx arg) := BitVec.and_zero

end MatchesTableRow

end Sys2Proof.Laws
end

