-- ==== Sys2Proof/Laws/Step.lean ====
section
/-! SUPPORT. What a step can do, said once: it runs the fetched instruction or it is the agent's or the environment's own step. -/

namespace Sys2Proof.Machine

/-- A step with a next state runs a decoded instruction or is an internal step. -/
theorem step_cases {s t : State} (h : step s = .next t) :
    configWf s.cfg = true ∧
      ((∃ c u i, fetch s = some (c, u) ∧ decode c = .ok i ∧ exec i u = .next t) ∨ (fetch s = none ∧ t = internalStep s)) := by
  unfold step at h
  split at h
  · next hw =>
    refine ⟨hw, ?_⟩
    split at h
    · next c u hf =>
      split at h
      · next i hd => exact .inl ⟨c, u, i, hf, hd, h⟩
      · cases h
    · next hf =>
      cases h
      exact .inr ⟨hf, rfl⟩
  · cases h

/-- The protocol agent fetches the found frame, the pair at the cursor or the point at the cursor. -/
theorem fetchAgent_cases {s u : State} {c : Code} (h : fetchAgent s = some (c, u)) :
    s.link = .bound ∧
      ((∃ f, s.phase = .dispatching f ∧ c = .frame f ∧ u = s) ∨
        (∃ a p0 p1 p2 p3 rest, s.phase = .writing a (p0 :: p1 :: p2 :: p3 :: rest) ∧ c = .pair (pairWord p0 p1 p2 p3) ∧
          u = { s with phase := .writing a rest }) ∨
        ∃ a q0 q1 rest, s.phase = .readingPoints a (q0 :: q1 :: rest) ∧ c = .clsnum (be16 q0 q1) ∧
          u = { s with phase := .readingPoints a rest }) := by
  unfold fetchAgent at h
  split at h
  · next hl =>
    refine ⟨hl, ?_⟩
    split at h
    · next f hp => cases h; exact .inl ⟨f, hp, rfl, rfl⟩
    · next a p0 p1 p2 p3 rest hp => cases h; exact .inr (.inl ⟨a, p0, p1, p2, p3, rest, hp, rfl, rfl⟩)
    · next a q0 q1 rest hp => cases h; exact .inr (.inr ⟨a, q0, q1, rest, hp, rfl, rfl⟩)
    · cases h
  · cases h

/-- The next instruction is the host's next operation, or the protocol agent's with at most its own event taken off. -/
theorem fetch_cases {s u : State} {c : Code} (h : fetch s = some (c, u)) :
    (∃ w rest, s.env = .host w :: rest ∧ c = .host w ∧ u = { s with env := rest }) ∨
      fetchAgent s = some (c, u) ∨ ∃ rest, s.env = .agent :: rest ∧ fetchAgent { s with env := rest } = some (c, u) := by
  unfold fetch at h
  split at h
  · exact .inr (.inl h)
  · next e rest he =>
    split at h
    · exact .inr (.inl h)
    · cases e with
      | agent => exact .inr (.inr ⟨rest, he, h⟩)
      | host w => cases h; exact .inl ⟨w, rest, he, rfl, rfl⟩
      | _ => cases h

/-- Fetching changes nothing but the events and the agent's place. -/
theorem fetch_frame {s u : State} {c : Code} (h : fetch s = some (c, u)) :
    u = { s with env := u.env, phase := u.phase } := by
  rcases fetch_cases h with ⟨w, rest, -, -, rfl⟩ | h | ⟨rest, -, h⟩
  · rfl
  · rcases (fetchAgent_cases h).2 with ⟨f, -, -, rfl⟩ | ⟨a, p0, p1, p2, p3, rest, -, -, rfl⟩ | ⟨a, q0, q1, rest, -, -, rfl⟩ <;> rfl
  · rcases (fetchAgent_cases h).2 with ⟨f, -, -, rfl⟩ | ⟨a, p0, p1, p2, p3, r', -, -, rfl⟩ | ⟨a, q0, q1, r', -, -, rfl⟩ <;> rfl

/-- An internal step is the agent's turn or one event. -/
theorem internalStep_cases (s : State) :
    internalStep s = agentTurn s ∨ ∃ e rest, s.env = e :: rest ∧ defers e s = false ∧ internalStep s = eventStep e { s with env := rest } := by
  unfold internalStep
  split
  · exact .inl rfl
  · next e rest he =>
    cases hd : defers e s
    · exact .inr ⟨e, rest, he, hd, rfl⟩
    · exact .inl rfl

end Sys2Proof.Machine
end

