-- ==== Sys2Proof/Laws/Sync.lean ====
section
/-! SUPPORT. What one candidate of a scan decides, in the words of the claims. -/

namespace Sys2Proof.Machine

/-- The command test as a bound. -/
theorem mem_cmdSet (b : Byte) : b ∈ cmdSet ↔ b.toNat ≤ 3 := by
  revert b; decide

/-- The idle pattern: the five header bytes are zero. -/
theorem idleHeader_iff (l : List Byte) : idleHeader l = true ↔ ∀ k < 5, l.getD (0 + k) 0 = 0 := by
  unfold idleHeader
  simp only [Bool.and_eq_true, beq_iff_eq]
  constructor
  · rintro ⟨⟨⟨⟨a,b⟩,c⟩,d⟩,e⟩ k hk
    have : k=0 ∨ k=1 ∨ k=2 ∨ k=3 ∨ k=4 := by omega
    rcases this with rfl|rfl|rfl|rfl|rfl <;> simpa
  · intro h
    exact ⟨⟨⟨⟨by simpa using h 0 (by omega), by simpa using h 1 (by omega)⟩, by simpa using h 2 (by omega)⟩,
      by simpa using h 3 (by omega)⟩, by simpa using h 4 (by omega)⟩

/-- The expected length of the candidate at the front. -/
theorem expectedLen_eq (l : List Byte) : expectedLen (l.getD 4 0) = 7 + candLen l 0 := by
  simp [expectedLen, hdrLen, cksLen, candLen]; omega

/-- A candidate is tested by the bytes from its offset on. -/
theorem acceptable_drop (l : List Byte) (i : Nat) : Acceptable l i ↔ Acceptable (l.drop i) 0 := by
  unfold Acceptable candidate candLen
  simp only [List.getD_eq_getElem?_getD, List.getElem?_drop, List.length_drop, List.drop_zero, Nat.zero_add, Nat.add_zero]
  constructor
  · rintro ⟨h1,h2,h3,h4,h5,h6⟩
    exact ⟨by omega, h2, h3, by omega, h5, h6⟩
  · rintro ⟨h1,h2,h3,h4,h5,h6⟩
    exact ⟨by omega, h2, h3, by omega, h5, h6⟩


/-- What the tests of one candidate decide, in the words of the claims (spec/41_frame_sync.md R104). -/
theorem judge_eq (i : Nat) (l : List Byte) : judge i l =
    if ¬ (l.getD 0 0).toNat ≤ 3 then .reject (.notACommand i)
    else if 50 < candLen l 0 then .reject (.lengthTooLarge i (candLen l 0))
    else if l.length < 7 + candLen l 0 then
      (if i = 0 then .stall (.partialFrame (7 + candLen l 0) l.length) else .reject (.truncatedCandidate i))
    else if idleHeader l = true then .reject (.idlePattern i)
    else if verify (candidate l 0) = true then .accept (candidate l 0) (l.drop (7 + candLen l 0))
    else .reject (.checksumMismatch i) := by
  have hc : (l.getD 4 0).toNat = candLen l 0 := by simp [candLen]
  have hcand : List.take (7 + candLen l 0) l = candidate l 0 := by simp [candidate]
  unfold judge
  simp only [expectedLen_eq, mem_cmdSet, hc, hcand]
  rfl

/-- A candidate is accepted exactly when it passes every test. -/
theorem judge_eq_accept (i : Nat) (l f rest : List Byte) (h7 : 7 ≤ l.length) :
    judge i l = .accept f rest ↔ Acceptable l 0 ∧ f = candidate l 0 ∧ rest = l.drop (7 + candLen l 0) := by
  rw [judge_eq]
  unfold Acceptable
  rw [← idleHeader_iff]
  by_cases h1 : (l.getD 0 0).toNat ≤ 3
  · by_cases h2 : 50 < candLen l 0
    · rw [if_neg (not_not.mpr h1), if_pos h2]; simp; omega
    · by_cases h3 : l.length < 7 + candLen l 0
      · rw [if_neg (not_not.mpr h1), if_neg h2, if_pos h3]
        constructor
        · intro h; by_cases h0 : i = 0 <;> simp [h0] at h
        · rintro ⟨⟨-,-,-,h,-⟩,-⟩; omega
      · by_cases h4 : idleHeader l = true
        · rw [if_neg (not_not.mpr h1), if_neg h2, if_neg h3, if_pos h4]
          constructor
          · intro h; cases h
          · rintro ⟨⟨-,-,-,-,h,-⟩,-⟩; exact absurd h4 h
        · by_cases h5 : verify (candidate l 0) = true
          · rw [if_neg (not_not.mpr h1), if_neg h2, if_neg h3, if_neg h4, if_pos h5]
            constructor
            · intro h; cases h; exact ⟨⟨by omega, h1, by omega, by omega, h4, h5⟩, rfl, rfl⟩
            · rintro ⟨-, rfl, rfl⟩; rfl
          · rw [if_neg (not_not.mpr h1), if_neg h2, if_neg h3, if_neg h4, if_neg h5]
            constructor
            · intro h; cases h
            · rintro ⟨⟨-,-,-,-,-,h⟩,-⟩; exact absurd h h5
  · rw [if_pos h1]
    constructor
    · intro h; cases h
    · rintro ⟨⟨-,h,-⟩,-⟩; exact absurd h h1

/-- A candidate ends the scan exactly when it is incomplete at offset 0. -/
theorem judge_eq_stall (i : Nat) (l : List Byte) (c : Condition) (h7 : 7 ≤ l.length) :
    judge i l = .stall c ↔ i = 0 ∧ FrontPartial l ∧ c = .partialFrame (7 + candLen l 0) l.length := by
  rw [judge_eq]
  unfold FrontPartial
  by_cases h1 : (l.getD 0 0).toNat ≤ 3
  · by_cases h2 : 50 < candLen l 0
    · rw [if_neg (not_not.mpr h1), if_pos h2]; simp; omega
    · by_cases h3 : l.length < 7 + candLen l 0
      · rw [if_neg (not_not.mpr h1), if_neg h2, if_pos h3]
        by_cases h0 : i = 0
        · rw [if_pos h0]
          constructor
          · intro h; cases h; exact ⟨h0, ⟨h7, h1, by omega, h3⟩, rfl⟩
          · rintro ⟨-, -, rfl⟩; rfl
        · rw [if_neg h0]
          constructor
          · intro h; cases h
          · rintro ⟨h, -⟩; exact absurd h h0
      · rw [if_neg (not_not.mpr h1), if_neg h2, if_neg h3]
        constructor
        · intro h; split at h
          · cases h
          · split at h <;> cases h
        · rintro ⟨-, ⟨-,-,-,h⟩, -⟩; exact absurd h h3
  · rw [if_pos h1]
    constructor
    · intro h; cases h
    · rintro ⟨-,⟨-,h,-⟩,-⟩; exact absurd h h1

/-- Offsets count from the byte after the first one less. -/
theorem acceptable_cons (b : Byte) (t : List Byte) (k : Nat) : Acceptable (b :: t) (k+1) ↔ Acceptable t k := by
  rw [acceptable_drop, acceptable_drop t]; rfl

end Sys2Proof.Machine
end

