-- ==== Sys2Proof/Tests/Slice0.lean ====
section
/-! SUPPORT. The model's own tests: the well-formedness smoke, one written-out word for every constructor, a few steps of
spec/95_test_vectors.md, and the witnesses of the statements' hypotheses. -/

namespace Sys2Proof.Tests

open Sys2Proof Sys2Proof.Machine

/-! ### Helpers -/

/-- The base state TB(m) of spec/95_test_vectors.md section 0. -/
def tb (m : Nat) : State := { State.resetWith { standardConfig with modelAtReset := m } with link := .bound }

/-- TB(m) under ATOMIC_UNIT = FRAME. -/
def tbFrame (m : Nat) : State :=
  { State.resetWith { standardConfig with modelAtReset := m, atomicUnit := .frame } with link := .bound }

/-- TB(VRF) with one object beyond the registry. -/
def tbExtra : State := { State.resetWith { standardConfig with extraObj := [0x2000] } with link := .bound }

/-- The outcome is a next state that passes a check. -/
def nextIs (r : Result) (check : State → Bool) : Bool :=
  match r with
  | .next t => check t
  | .fault _ => false
  | .refused _ => false

/-- The frame V1 of spec/95_test_vectors.md S1. -/
def v1 : List Byte := [0x02, 0x00, 0x00, 0x00, 0x04, 0x10, 0x02, 0x00, 0xA0, 0xFF, 0x47]

/-! ### Well-formedness: an ill-formed term for each check -/

theorem test_wf_cmd0_length : (Instr.cmd0 ⟨0, 0, 1⟩ (List.replicate 51 0)).wf = false := by decide
theorem test_wf_cmd0_idle : (Instr.cmd0 ⟨0, 0, 0⟩ []).wf = false := by decide
theorem test_wf_cmd1_length : (Instr.cmd1 ⟨0, 0, 1⟩ (List.replicate 51 0)).wf = false := by decide
theorem test_wf_cmd2_length : (Instr.cmd2 ⟨0, 0, 1⟩ (List.replicate 51 0)).wf = false := by decide
theorem test_wf_cmd3Obj_length : (Instr.cmd3Obj ⟨0, 0, 1⟩ (List.replicate 52 0)).wf = false := by decide
theorem test_wf_cmd3Obj_empty : (Instr.cmd3Obj ⟨0, 0, 1⟩ []).wf = false := by decide
theorem test_wf_cmd3Obj_mode : (Instr.cmd3Obj ⟨0, 0, 1⟩ [0x01, 0x01]).wf = false := by decide
theorem test_wf_cmd3Cls_length : (Instr.cmd3Cls ⟨0, 0, 1⟩ (List.replicate 51 0)).wf = false := by decide
theorem test_wf_cmd3Cls_mode : (Instr.cmd3Cls ⟨0, 0, 1⟩ [0x01, 0x01, 0x01, 0x01]).wf = false := by decide
theorem test_wf_wrUnknown_registry : (Instr.wrUnknown 0x1002 0).wf = false := by decide
theorem test_wf_qryCap_fixed : (Instr.qryCap 0x01).wf = false := by decide
theorem test_wf_qryCap_vane : (Instr.qryCap 0x44).wf = false := by decide
theorem test_wf_qryNone_class : (Instr.qryNone 0x11 0x01).wf = false := by decide
theorem test_wf_hostInvalid_code : (Instr.hostInvalid 0x0C 0 0).wf = false := by decide

/-- A configuration with a step count of 0 for a writable vane is ill formed (spec/93_implementation_defined.md U14). -/
theorem test_configWf_steps : configWf { standardConfig with vSteps := ⟨0, 4, 4⟩ } = false := by decide
/-- A persisted model id outside 1 to 3 is ill formed (U13). -/
theorem test_configWf_model : configWf { standardConfig with modelAtReset := 4 } = false := by decide
theorem test_configWf_extra : configWf { standardConfig with extraObj := [0x1002] } = false := by decide
theorem test_configWf_standard : configWf standardConfig = true := by decide

/-! ### Decoding: one written-out word for every constructor, from the encodings of spec/opcode_table.json and the vectors of
spec/95_test_vectors.md -/

theorem test_decode_cmd0 : decode (.frame [0x00, 0x00, 0x00, 0x01, 0x00, 0xFF, 0xFE]) = .ok (.cmd0 ⟨0x00, 0x00, 0x01⟩ []) := by decide
theorem test_decode_cmd1 : decode (.frame [0x01, 0x12, 0x34, 0x56, 0x01, 0xAB, 0xFE, 0xB6]) = .ok (.cmd1 ⟨0x12, 0x34, 0x56⟩ [0xAB]) := by decide
theorem test_decode_cmd2 : decode (.frame v1) = .ok (.cmd2 ⟨0x00, 0x00, 0x00⟩ [0x10, 0x02, 0x00, 0xA0]) := by decide
theorem test_decode_cmd3Obj : decode (.frame [0x03, 0x00, 0x00, 0x00, 0x04, 0x10, 0x00, 0x00, 0x00, 0xFF, 0xE8]) = .ok (.cmd3Obj ⟨0x00, 0x00, 0x00⟩ [0x10, 0x00, 0x00, 0x00]) := by decide
theorem test_decode_cmd3Cls : decode (.frame [0x03, 0x00, 0x00, 0x00, 0x02, 0x01, 0x01, 0xFF, 0xF8]) = .ok (.cmd3Cls ⟨0x00, 0x00, 0x00⟩ [0x01, 0x01]) := by decide
theorem test_decode_wrOnoff : decode (.pair 0x10008556#32) = .ok (.wrOnoff 0x8556) := by decide
theorem test_decode_wrMode : decode (.pair 0x10018667#32) = .ok (.wrMode 0x8667) := by decide
theorem test_decode_wrSetpt : decode (.pair 0x10028778#32) = .ok (.wrSetpt 0x8778) := by decide
theorem test_decode_wrFan : decode (.pair 0x10038889#32) = .ok (.wrFan 0x8889) := by decide
theorem test_decode_wrVdirG : decode (.pair 0x1010899A#32) = .ok (.wrVdirG 0x899A) := by decide
theorem test_decode_wrVswgG : decode (.pair 0x10118AAB#32) = .ok (.wrVswgG 0x8AAB) := by decide
theorem test_decode_wrHdirG : decode (.pair 0x10228BBC#32) = .ok (.wrHdirG 0x8BBC) := by decide
theorem test_decode_wrHswgG : decode (.pair 0x10238CCD#32) = .ok (.wrHswgG 0x8CCD) := by decide
theorem test_decode_wrErr0 : decode (.pair 0x10308DDE#32) = .ok (.wrErr0 0x8DDE) := by decide
theorem test_decode_wrErr1 : decode (.pair 0x10318EEF#32) = .ok (.wrErr1 0x8EEF) := by decide
theorem test_decode_wrRoomt : decode (.pair 0x10339000#32) = .ok (.wrRoomt 0x9000) := by decide
theorem test_decode_wrEcon : decode (.pair 0x11009111#32) = .ok (.wrEcon 0x9111) := by decide
theorem test_decode_wrVdir0 : decode (.pair 0x10129222#32) = .ok (.wrVdir0 0x9222) := by decide
theorem test_decode_wrVdir1 : decode (.pair 0x10149333#32) = .ok (.wrVdir1 0x9333) := by decide
theorem test_decode_wrVdir2 : decode (.pair 0x10169444#32) = .ok (.wrVdir2 0x9444) := by decide
theorem test_decode_wrVdir3 : decode (.pair 0x10189555#32) = .ok (.wrVdir3 0x9555) := by decide
theorem test_decode_wrVswg0 : decode (.pair 0x10139666#32) = .ok (.wrVswg0 0x9666) := by decide
theorem test_decode_wrVswg1 : decode (.pair 0x10159777#32) = .ok (.wrVswg1 0x9777) := by decide
theorem test_decode_wrVswg2 : decode (.pair 0x10179888#32) = .ok (.wrVswg2 0x9888) := by decide
theorem test_decode_wrVswg3 : decode (.pair 0x10199999#32) = .ok (.wrVswg3 0x9999) := by decide
theorem test_decode_wrXvpos0 : decode (.pair 0x01329AAA#32) = .ok (.wrXvpos0 0x9AAA) := by decide
theorem test_decode_wrXvpos1 : decode (.pair 0x01339BBB#32) = .ok (.wrXvpos1 0x9BBB) := by decide
theorem test_decode_wrXvpos2 : decode (.pair 0x01349CCC#32) = .ok (.wrXvpos2 0x9CCC) := by decide
theorem test_decode_wrXvpos3 : decode (.pair 0x01359DDD#32) = .ok (.wrXvpos3 0x9DDD) := by decide
theorem test_decode_wrXvswg0 : decode (.pair 0x103A9EEE#32) = .ok (.wrXvswg0 0x9EEE) := by decide
theorem test_decode_wrXvswg1 : decode (.pair 0x103B9FFF#32) = .ok (.wrXvswg1 0x9FFF) := by decide
theorem test_decode_wrXvswg2 : decode (.pair 0x103CA110#32) = .ok (.wrXvswg2 0xA110) := by decide
theorem test_decode_wrXvswg3 : decode (.pair 0x103DA221#32) = .ok (.wrXvswg3 0xA221) := by decide
theorem test_decode_wrXhpos0 : decode (.pair 0x0144A332#32) = .ok (.wrXhpos0 0xA332) := by decide
theorem test_decode_wrXhpos1 : decode (.pair 0x0145A443#32) = .ok (.wrXhpos1 0xA443) := by decide
theorem test_decode_wrXhpos2 : decode (.pair 0x0146A554#32) = .ok (.wrXhpos2 0xA554) := by decide
theorem test_decode_wrXhpos3 : decode (.pair 0x0147A665#32) = .ok (.wrXhpos3 0xA665) := by decide
theorem test_decode_wrXhswg0 : decode (.pair 0x0148A776#32) = .ok (.wrXhswg0 0xA776) := by decide
theorem test_decode_wrXhswg1 : decode (.pair 0x0149A887#32) = .ok (.wrXhswg1 0xA887) := by decide
theorem test_decode_wrXhswg2 : decode (.pair 0x014AA998#32) = .ok (.wrXhswg2 0xA998) := by decide
theorem test_decode_wrXhswg3 : decode (.pair 0x014BAAA9#32) = .ok (.wrXhswg3 0xAAA9) := by decide
theorem test_decode_wrUnknown : decode (.pair 0x2000A55A#32) = .ok (.wrUnknown 0x2000 0xA55A) := by decide
theorem test_decode_qryCap01 : decode (.clsnum 0x0101#16) = .ok .qryCap01 := by decide
theorem test_decode_qryXvpos0 : decode (.clsnum 0x0132#16) = .ok .qryXvpos0 := by decide
theorem test_decode_qryXvpos1 : decode (.clsnum 0x0133#16) = .ok .qryXvpos1 := by decide
theorem test_decode_qryXvpos2 : decode (.clsnum 0x0134#16) = .ok .qryXvpos2 := by decide
theorem test_decode_qryXvpos3 : decode (.clsnum 0x0135#16) = .ok .qryXvpos3 := by decide
theorem test_decode_qryXhpos0 : decode (.clsnum 0x0144#16) = .ok .qryXhpos0 := by decide
theorem test_decode_qryXhpos1 : decode (.clsnum 0x0145#16) = .ok .qryXhpos1 := by decide
theorem test_decode_qryXhpos2 : decode (.clsnum 0x0146#16) = .ok .qryXhpos2 := by decide
theorem test_decode_qryXhpos3 : decode (.clsnum 0x0147#16) = .ok .qryXhpos3 := by decide
theorem test_decode_qryXhswg0 : decode (.clsnum 0x0148#16) = .ok .qryXhswg0 := by decide
theorem test_decode_qryXhswg1 : decode (.clsnum 0x0149#16) = .ok .qryXhswg1 := by decide
theorem test_decode_qryXhswg2 : decode (.clsnum 0x014A#16) = .ok .qryXhswg2 := by decide
theorem test_decode_qryXhswg3 : decode (.clsnum 0x014B#16) = .ok .qryXhswg3 := by decide
theorem test_decode_qryProto : decode (.clsnum 0x008E#16) = .ok (.qryProto 0x8E) := by decide
theorem test_decode_qryCap : decode (.clsnum 0x018E#16) = .ok (.qryCap 0x8E) := by decide
theorem test_decode_qryReg : decode (.clsnum 0x108E#16) = .ok (.qryReg 0x8E) := by decide
theorem test_decode_qryEcon : decode (.clsnum 0x118E#16) = .ok (.qryEcon 0x8E) := by decide
theorem test_decode_qryNone : decode (.clsnum 0x5022#16) = .ok (.qryNone 0x50 0x22) := by decide
theorem test_decode_getState : decode (.host 0x00BCBFFD#32) = .ok (.getState 0xBC 0xBFFD) := by decide
theorem test_decode_setPower : decode (.host 0x01BDC10E#32) = .ok (.setPower 0xBD 0xC10E) := by decide
theorem test_decode_setMode : decode (.host 0x02BEC21F#32) = .ok (.setMode 0xBE 0xC21F) := by decide
theorem test_decode_setTemp : decode (.host 0x03BFC330#32) = .ok (.setTemp 0xBF 0xC330) := by decide
theorem test_decode_setFan : decode (.host 0x04C0C441#32) = .ok (.setFan 0xC0 0xC441) := by decide
theorem test_decode_setSwing : decode (.host 0x05C1C552#32) = .ok (.setSwing 0xC1 0xC552) := by decide
theorem test_decode_setRoomTemp : decode (.host 0x06C2C663#32) = .ok (.setRoomTemp 0xC2 0xC663) := by decide
theorem test_decode_setModel : decode (.host 0x07C3C774#32) = .ok (.setModel 0xC3 0xC774) := by decide
theorem test_decode_getCaps : decode (.host 0x08C4C885#32) = .ok (.getCaps 0xC4 0xC885) := by decide
theorem test_decode_setVvanePos : decode (.host 0x09C5C996#32) = .ok (.setVvanePos 0xC5 0xC996) := by decide
theorem test_decode_setVvaneSwing : decode (.host 0x0AC6CAA7#32) = .ok (.setVvaneSwing 0xC6 0xCAA7) := by decide
theorem test_decode_setHvanePos : decode (.host 0x0BC7CBB8#32) = .ok (.setHvanePos 0xC7 0xCBB8) := by decide
theorem test_decode_setHvaneSwing : decode (.host 0x0CC8CCC9#32) = .ok (.setHvaneSwing 0xC8 0xCCC9) := by decide
theorem test_decode_hostInvalid : decode (.host 0xFF123456#32) = .ok (.hostInvalid 0xFF 0x12 0x3456) := by decide

/-- Refusals of the decoder, each by name (spec/30_encoding.md R56, R74, R75, R76). -/
theorem test_decode_notACommand : decode (.frame [0x04, 0, 0, 0, 0, 0xFF, 0xFB]) = .error .notACommand := by decide
theorem test_decode_lengthTooLarge : decode (.frame [0x02, 0, 0, 0, 51, 0, 0]) = .error .lengthTooLarge := by decide
theorem test_decode_lengthMismatch : decode (.frame [0x02, 0, 0, 0, 1, 0, 0]) = .error .lengthMismatch := by decide
theorem test_decode_shortFrame : decode (.frame [0x02, 0, 0, 0]) = .error .shortFrame := by decide
theorem test_decode_idlePattern : decode (.frame [0, 0, 0, 0, 0, 0xFF, 0xFF]) = .error .idlePattern := by decide

/-- The host's words: a row's word is fetched and run by the very next step. -/
theorem test_tableWord_pair : decodeTableWord 32 0x10020123 = some (.wrSetpt 0x0123) := by decide
theorem test_tableWord_host : decodeTableWord 32 0x030000B4 = some (.setTemp 0x00 0x00B4) := by decide
theorem test_tableWord_point : decodeTableWord 16 0x1103 = some (.qryEcon 0x03) := by decide
theorem test_tableWord_frame : decodeTableWord 40 0x0300000104 = some (.cmd3Obj ⟨0x00, 0x00, 0x01⟩ [0, 0, 0, 0]) := by decide
theorem test_step_fetchWord :
    nextIs (step (State.reset.withFetchWord 32 0x10020123)) (fun t => t.regs.setpt == 0x0123 && t.snap.setpoint == 291) = true := by
  decide

/-! ### The checksum and the synchronizer (spec/95_test_vectors.md S1, S6, S7, section 2.1) -/

theorem test_cks_empty : cks [] = 0xFFFF := by decide
theorem test_cks_v1 : cks [0x02, 0x00, 0x00, 0x00, 0x04, 0x10, 0x02, 0x00, 0xA0] = 0xFF47 := by decide
set_option maxRecDepth 20000 in
theorem test_cks_wraps : cks (List.replicate 258 0xFF) = 0xFF01 := by decide
theorem test_verify_v1 : verify v1 = true := by decide
theorem test_verify_bad_last_byte : verify [0x02, 0, 0, 0, 0x04, 0x10, 0x02, 0x00, 0xA0, 0xFF, 0x46] = false := by decide
theorem test_scan_idle : scan [0, 0, 0, 0, 0, 0xFF, 0xFF] = ⟨.noFrame, none, [0, 0, 0, 0, 0, 0xFF, 0xFF], [.idlePattern 0]⟩ := by
  decide
theorem test_scan_noise :
    scan ([0xFF, 0x07, 0x55] ++ v1 ++ [0xAA]) = ⟨.found, some v1, [0xAA], [.notACommand 0, .notACommand 1, .notACommand 2]⟩ := by
  decide
/-- The head-of-line stall of program P5. -/
theorem test_scan_partial :
    (scan [0x02, 0x02, 0x00, 0x00, 0x20, 0x04, 0x10, 0x00, 0x00, 0x01, 0xFF, 0xC8]).outcome = .partialFront := by decide
set_option maxRecDepth 20000 in
theorem test_scan_overflow : (scan (List.replicate 257 0xFF)).buf.length = 129 := by decide

/-! ### Single steps (spec/95_test_vectors.md S1 to S5 and section 2) -/

/-- The 14 ids of SWINGSET as spec/10_state.md R23 lists them. -/
theorem test_swingSet_ids :
    swingSet.map objId = [0x1011, 0x1023, 0x1013, 0x1015, 0x1017, 0x1019, 0x103A, 0x103B, 0x103C, 0x103D, 0x0148, 0x0149, 0x014A,
      0x014B] := by decide
theorem test_cmd2_frame : nextIs (exec (.cmd2 ⟨0, 0, 0⟩ [0x10, 0x02, 0x00, 0xA0]) (tbFrame 3))
    (fun t => t.phase == .responding [0x02, 0x00, 0x00, 0x00, 0x01, 0x01, 0xFF, 0xFB] && t.snap.setpoint == 160) = true := by decide
theorem test_cmd3Obj_value_ignored : nextIs (exec (.cmd3Obj ⟨0, 0, 0⟩ [0x10, 0x00, 0xAB, 0xCD]) (tbFrame 3))
    (fun t => t.phase == .responding [0x03, 0, 0, 0, 0x06, 0x01, 0x04, 0x10, 0x00, 0x00, 0x00, 0xFF, 0xE1]) = true := by decide
theorem test_cmd3Obj_hole : nextIs (exec (.cmd3Obj ⟨0, 0, 0⟩ [0x10, 0x04, 0, 0]) (tbFrame 3))
    (fun t => t.phase == .responding [0x03, 0, 0, 0, 0x06, 0x01, 0x04, 0x10, 0x04, 0x00, 0x00, 0xFF, 0xDD] &&
      t.diag == [.unknownObject 0x1004]) = true := by decide
theorem test_cmd3Cls_vrf : nextIs (exec (.cmd3Cls ⟨0, 0, 0⟩ [0x01, 0x01]) (tbFrame 3))
    (fun t => t.phase == .responding [0x03, 0, 0, 0, 0x06, 0x01, 0x04, 0x01, 0x01, 0x00, 0x04, 0xFF, 0xEB]) = true := by decide
theorem test_cmd3Cls_office : nextIs (exec (.cmd3Cls ⟨0, 0, 0⟩ [0x01, 0x01]) (tbFrame 1))
    (fun t => t.phase == .responding [0x03, 0, 0, 0, 0x06, 0x01, 0x04, 0x01, 0x01, 0x00, 0x00, 0xFF, 0xEF]) = true := by decide
theorem test_cmd0_ack : nextIs (exec (.cmd0 ⟨0, 0, 1⟩ []) (tb 3))
    (fun t => t.phase == .responding [0x00, 0x00, 0x00, 0x01, 0x01, 0x01, 0xFF, 0xFC]) = true := by decide
theorem test_cmd1_ack : nextIs (exec (.cmd1 ⟨0, 0, 0⟩ []) (tb 3))
    (fun t => t.phase == .responding [0x01, 0x00, 0x00, 0x00, 0x01, 0x01, 0xFF, 0xFC]) = true := by decide
theorem test_setPower : nextIs (exec (.setPower 0 1) (tb 3)) (fun t => t.regs.onoff == 1 && t.snap.power) = true := by decide
theorem test_setTemp_cool_rejected : nextIs (exec (.setTemp 0 175) { tb 3 with snap := { (tb 3).snap with mode := .cool } })
    (fun t => t.regs.setpt == 0x00F0 && t.diag == [.invalidRequest 0x03 0 175]) = true := by decide
theorem test_setTemp_cool_accepted : nextIs (exec (.setTemp 0 180) { tb 3 with snap := { (tb 3).snap with mode := .cool } })
    (fun t => t.regs.setpt == 0x00B4 && t.snap.setpoint == 180) = true := by decide
theorem test_setVvanePos_zero : nextIs (exec (.setVvanePos 2 0) (tb 3)) (fun t => t.regs.vdir[2] == 1) = true := by decide
theorem test_setVvanePos_office : nextIs (exec (.setVvanePos 1 3) (tb 1))
    (fun t => t.regs.vdir[1] == 0 && t.diag == [.invalidRequest 0x09 1 3]) = true := by decide
theorem test_setRoomTemp_negative : nextIs (exec (.setRoomTemp 0 0xFB1E) (tb 3))
    (fun t => t.regs.roomt == 3750 && t.snap.room == -1250) = true := by decide
theorem test_setModel_zeroes : nextIs (exec (.setModel 0 1) { tb 3 with regs := { (tb 3).regs with xhswg := #v[0, 7, 0, 0] } })
    (fun t => t.regs.xhswg[1] == 0 && t.persisted == [.office] && t.snap.model == .office) = true := by decide
theorem test_wrRoomt_unset : nextIs (exec (.wrRoomt 0xFFFF) (tb 3)) (fun t => t.regs.roomt == 0xFFFF && t.snap.room == 2300) = true := by
  decide
theorem test_wrVdir2_clamps : nextIs (exec (.wrVdir2 9) (tb 3)) (fun t => t.regs.vdir[2] == 4) = true := by decide
theorem test_wrXhpos0_office : nextIs (exec (.wrXhpos0 3) (tb 1))
    (fun t => t.regs.xhpos[0] == 0 && t.diag == [.vaneUnsupported 0x0144]) = true := by decide
theorem test_qryXvpos1_office : nextIs (exec .qryXvpos1 (tb 1)) (fun t => t.entries == [0x01, 0x33, 0xFF, 0xFF]) = true := by decide
theorem test_qryReg_setpt : nextIs (exec (.qryReg 0x02) (tb 3)) (fun t => t.entries == [0x10, 0x02, 0x00, 0xF0]) = true := by decide
theorem test_step_illFormed : nextIs (step { tb 3 with cfg := { standardConfig with cmd3LBias := 1 } }) (fun _ => true) = false := by
  decide

/-! ### Witnesses: states and operands that meet a statement's hypotheses, one for each clause, at the ends of the ranges -/

theorem consistent_tb (m : Nat) (h : m = 1 ∨ m = 2 ∨ m = 3) : Consistent (tb m) := by
  rcases h with rfl | rfl | rfl <;> (unfold Consistent; decide)

theorem witness_DecodeEncodeRoundTrip :
    (Instr.cmd0 ⟨0, 0, 0⟩ [0]).wf = true ∧ (Instr.cmd0 ⟨0, 0, 1⟩ []).wf = true ∧ (Instr.cmd2 ⟨0, 0, 0⟩ (List.replicate 50 0)).wf = true ∧
      (Instr.cmd3Obj ⟨0, 0, 0⟩ (List.replicate 48 0)).wf = true ∧ (Instr.cmd3Cls ⟨0, 0, 0⟩ (List.replicate 50 0)).wf = true ∧
      (Instr.wrUnknown 0xFFFF 0xFFFF).wf = true ∧ (Instr.qryCap 0xFF).wf = true ∧ (Instr.qryNone 0x12 0).wf = true ∧
      (Instr.hostInvalid 0x0D 0 0).wf = true := by decide

theorem witness_VerifiedFrameIsItsEncoding :
    verify v1 = true ∧ v1.length = 7 + (v1.getD 4 0).toNat ∧ decode (.frame v1) = .ok (.cmd2 ⟨0, 0, 0⟩ [0x10, 0x02, 0x00, 0xA0]) := by
  decide

theorem witness_StepRunsDecodedInstruction_host :
    configWf (tb 3).cfg = true ∧ { tb 3 with env := [.host 0x01000001] }.env = .host 0x01000001 :: [] ∧
      decode (.host 0x01000001) = .ok (.setPower 0 1) := by decide

theorem witness_AgentTurn_idle : AgentTurn (tb 3) (tb 3) := ⟨rfl, .inl ⟨rfl, rfl⟩⟩

theorem witness_AgentTurn_agent : AgentTurn { tb 3 with env := [.agent], phase := .dispatching v1 } { tb 3 with phase := .dispatching v1 } :=
  ⟨rfl, .inr (.inl ⟨[], rfl, rfl⟩)⟩

theorem witness_AgentTurn_deferred :
    AgentTurn { tb 3 with env := [.timeout], phase := .writing ⟨0, 0, 0⟩ [0x10, 0x02, 0x00, 0xA0] }
      { tb 3 with env := [.timeout], phase := .writing ⟨0, 0, 0⟩ [0x10, 0x02, 0x00, 0xA0] } :=
  ⟨rfl, .inr (.inr ⟨.timeout, [], rfl, by decide, rfl⟩)⟩

theorem witness_StepRunsDecodedInstruction_frame :
    configWf (tb 3).cfg = true ∧ { tb 3 with phase := .dispatching v1 }.phase = .dispatching v1 ∧
      decode (.frame v1) = .ok (.cmd2 ⟨0, 0, 0⟩ [0x10, 0x02, 0x00, 0xA0]) := by decide

theorem witness_StepRunsDecodedInstruction_pair :
    { tb 3 with phase := .writing ⟨0, 0, 0⟩ [0x10, 0x02, 0x00, 0xA0] }.phase = .writing ⟨0, 0, 0⟩ (0x10 :: 0x02 :: 0x00 :: 0xA0 :: []) ∧
      decode (.pair (be16 0x10 0x02 ++ be16 0x00 0xA0)) = .ok (.wrSetpt 0x00A0) := by decide

theorem witness_StepRunsDecodedInstruction_point :
    { tb 3 with phase := .readingPoints ⟨0, 0, 0⟩ [0x01, 0x01] }.phase = .readingPoints ⟨0, 0, 0⟩ (0x01 :: 0x01 :: []) ∧
      decode (.clsnum (be16 0x01 0x01)) = .ok .qryCap01 := by decide

theorem witness_DispatchRefusesLongPayload : 50 < (51 : Byte).toNat ∧ 50 < (List.replicate 51 (0 : Byte)).length := by decide

theorem witness_HandshakeResponds :
    (List.replicate 50 (0 : Byte)).length ≤ 50 ∧ ({ standardConfig with hs0 := [([1], ⟨1, 2, 3, 4⟩)] }.hs0.lookup [1]).isSome = true ∧
      ((tb 3).cfg.hs0.lookup [1]).isNone = true := by decide

theorem witness_CommandsBeginOrRun :
    (List.replicate 50 (0 : Byte)).length ≤ 50 ∧ (tb 3).cfg.atomicUnit = .pair ∧ (tbFrame 3).cfg.atomicUnit = .frame := by decide

theorem witness_PairRunEqualsFrameRun :
    configWf (tb 3).cfg = true ∧ (tb 3).cfg.atomicUnit = .pair ∧ (tb 3).link = .bound ∧ (tb 3).env = [] ∧
      nextIs (exec (.cmd2 ⟨0, 0, 0⟩ [0x10, 0x02, 0x00, 0xA0]) (tbFrame 3)) (fun _ => true) = true ∧
      nextIs (exec (.cmd3Obj ⟨0, 0, 0⟩ [0x10, 0x02, 0x00, 0xA0]) (tbFrame 3)) (fun _ => true) = true ∧
      nextIs (exec (.cmd3Cls ⟨0, 0, 0⟩ [0x01]) (tbFrame 3)) (fun _ => true) = true := by decide

theorem witness_ObjectWriteFrameAnswered :
    configWf (tb 3).cfg = true ∧ (tb 3).cfg.atomicUnit = .pair ∧ (tb 3).link = .bound ∧ (tb 3).phase = .reading ∧ (tb 3).buf = [] ∧
      (tb 3).entries = [] ∧ (List.replicate 50 (0 : Byte)).length ≤ 50 ∧
      chunkFits (tb 3).cfg (frameBytes 0x02 ⟨0, 0, 0⟩ (List.replicate 50 0)) = true := by decide

theorem witness_PairsTakeEffectInOrder :
    ([0x10, 0x02, 0x00, 0xA0] : List Byte).length % 4 = 0 ∧ ([0x01, 0x01] : List Byte).length % 2 = 0 ∧
      ([1, 2, 3] : List Byte).length < 4 ∧ ([1] : List Byte).length < 2 := by decide

theorem witness_QueryResponseSizes :
    (List.replicate 48 (0 : Byte)).length % 4 = 0 ∧ (List.replicate 50 (0 : Byte)).length ≤ 50 := by decide

theorem witness_PlainWritesStore : 0x2000 ∈ tbExtra.cfg.extraObj := by decide

/-- The premise of PowerWrite, ModeAndFanWrites, TemperatureWrites, GlobalSwingWrites, SilentWrites, VaneSwingWrites, SetModel and
SectionsKeepConsistency. -/
theorem witness_Consistent : Consistent (tb 3) := consistent_tb 3 (by decide)

theorem witness_VerticalPositionWrites_supported :
    configWf (tb 1).cfg = true ∧ Consistent (tb 1) ∧ VerticalWritable (tb 1).model 0 ∧ VerticalWritable (tb 3).model 3 :=
  ⟨by decide, consistent_tb 1 (by decide), .inr rfl, .inl rfl⟩

theorem witness_VerticalPositionWrites_unsupported :
    configWf (tb 1).cfg = true ∧ Consistent (tb 1) ∧ ¬VerticalWritable (tb 1).model 1 ∧ ¬VerticalWritable (tb 2).model 1 :=
  ⟨by decide, consistent_tb 1 (by decide), by unfold VerticalWritable; decide, by unfold VerticalWritable; decide⟩

theorem witness_HorizontalPositionWrites_supported :
    configWf (tb 2).cfg = true ∧ Consistent (tb 2) ∧ HorizontalWritable (tb 2).cfg (tb 2).model 0 ∧
      HorizontalWritable (tb 3).cfg (tb 3).model 3 :=
  ⟨by decide, consistent_tb 2 (by decide), .inl ⟨rfl, rfl⟩, .inr ⟨rfl, rfl⟩⟩

theorem witness_HorizontalPositionWrites_unsupported :
    configWf (tb 1).cfg = true ∧ Consistent (tb 1) ∧ ¬HorizontalWritable (tb 1).cfg (tb 1).model 0 ∧
      ¬HorizontalWritable (tb 2).cfg (tb 2).model 1 :=
  ⟨by decide, consistent_tb 1 (by decide), by unfold HorizontalWritable; decide, by unfold HorizontalWritable; decide⟩

theorem witness_UnknownWriteIgnored :
    0x2000 ∉ registryIds ∧ 0x2000 ∉ (tbFrame 3).cfg.extraObj ∧ (tbFrame 3).cfg.atomicUnit = .frame := by decide

theorem witness_FixedPoints :
    configWf (tb 3).cfg = true ∧ (tb 3).model = .vrf ∧ configWf (tb 1).cfg = true ∧ (tb 1).model = .office := by decide

theorem witness_VanePointQueries : (Instr.qryXhswg3, 0x4B, VaneGroup.xhswg, 3) ∈ vanePoints := by decide

theorem witness_ReadbackQueries_register :
    configWf tbExtra.cfg = true ∧ Holds tbExtra.cfg (.vane .xvswg 3) ∧ objId (.vane .xvswg 3) = be16 0x10 0x3D ∧
      Holds tbExtra.cfg .econ ∧ objId .econ = be16 0x11 0x00 :=
  ⟨by decide, .inl (by decide), by decide, .inl (by decide), by decide⟩

theorem witness_ReadbackQueries_hole (o : Obj) (h : Holds (tb 3).cfg o) : objId o ≠ be16 0x10 0x04 ∧ objId o ≠ be16 0x11 0x01 := by
  rcases h with h | ⟨id, hid, -⟩
  · revert o
    decide
  · cases hid

theorem witness_SetSwing : (0xFFFF : U16) ≠ 0 ∧ (1 : U16) ≠ 0 ∧ (0 : U16) = 0 := by decide

theorem witness_SetModel : modelId .office = (1 : U16).toNat ∧ modelId .vrf = (3 : U16).toNat ∧
    modelId .office ≠ (4 : U16).toNat ∧ modelId .horizontal ≠ (4 : U16).toNat ∧ modelId .vrf ≠ (4 : U16).toNat := by decide

theorem witness_SetVerticalVane :
    configWf (tb 1).cfg = true ∧ vaneIndex 0 = (0 : Byte).toNat ∧ VerticalWritable (tb 1).model 0 ∧
      (∀ v : Vane, vaneIndex v = (1 : Byte).toNat → ¬VerticalWritable (tb 1).model v) ∧
      ∀ v : Vane, vaneIndex v ≠ (4 : Byte).toNat := by
  refine ⟨by decide, by decide, .inr rfl, ?_, by decide⟩
  unfold VerticalWritable
  decide

theorem witness_SetHorizontalVane :
    configWf (tb 2).cfg = true ∧ vaneIndex 0 = (0 : Byte).toNat ∧ HorizontalWritable (tb 2).cfg (tb 2).model 0 ∧
      (∀ v : Vane, vaneIndex v = (0 : Byte).toNat → ¬HorizontalWritable (tb 1).cfg (tb 1).model v) := by
  refine ⟨by decide, by decide, .inl ⟨rfl, rfl⟩, ?_⟩
  unfold HorizontalWritable
  decide

theorem witness_HostOutcomes : 0x0D ≤ (0x0D : Byte).toNat ∧ 0x0D ≤ (0xFF : Byte).toNat := by decide

theorem witness_InvariantAtReset : configWf { standardConfig with modelAtReset := 1 } = true := by decide

/-- A state with a dispatch under way that meets the invariant, and its step. -/
theorem witness_StepKeepsInvariant :
    BlockInvariant { tb 3 with phase := .dispatching v1 } ∧
      nextIs (step { tb 3 with phase := .dispatching v1 }) (fun _ => true) = true := by
  unfold BlockInvariant Consistent
  decide

theorem witness_PortsKeepTheirBounds :
    nextIs (step { tb 3 with env := [.host 0x07000001] }) (fun t => t.model != .vrf) = true ∧
      nextIs (step { tb 3 with env := [.reset 2] }) (fun t => t.model != .vrf) = true ∧
      nextIs (exec (decodePair 0x10020123) (tb 3)) (fun _ => true) = true ∧
      nextIs (exec (.cmd2 ⟨0, 0, 0⟩ []) (tb 3)) (fun _ => true) = true ∧
      nextIs (exec (decodeHost 0x0D000000) (tb 3)) (fun _ => true) = true := by decide

theorem witness_ReadsHaveNoSideEffects_register :
    configWf tbExtra.cfg = true ∧ Holds tbExtra.cfg (.extra 0x2000) ∧ objId (.extra 0x2000) = 0x2000 ∧
      Holds tbExtra.cfg (.vane .xhswg 3) ∧ objId (.vane .xhswg 3) = 0x014B :=
  ⟨by decide, .inr ⟨0x2000, by decide, rfl⟩, by decide, .inl (by decide), by decide⟩

theorem witness_ReadsHaveNoSideEffects_hole (o : Obj) (h : Holds (tb 3).cfg o) : objId o ≠ 0x014C ∧ objId o ≠ 0x1032 := by
  rcases h with h | ⟨i, hi, -⟩
  · revert o
    decide
  · exact absurd hi List.not_mem_nil

theorem witness_ReadsHaveNoSideEffects_step :
    configWf (tb 3).cfg = true ∧
      AgentTurn { tb 3 with phase := .readingObjects ⟨0, 0, 0⟩ [0x10, 0x00, 0x00, 0x00] }
        { tb 3 with phase := .readingObjects ⟨0, 0, 0⟩ [0x10, 0x00, 0x00, 0x00] } :=
  ⟨by decide, rfl, .inl ⟨rfl, rfl⟩⟩

theorem witness_TransmissionOnlyAnswers :
    configWf (tb 3).cfg = true ∧ { tb 3 with phase := .responding v1 }.phase = .responding v1 ∧
      nextIs (step { tb 3 with phase := .responding v1 }) (fun t => t.tx == [v1]) = true ∧
      nextIs (step { tb 3 with phase := .responding v1, env := [.txFail] }) (fun t => t.tx == [v1]) = true := by decide

theorem witness_ResetValues :
    modelId .office = { standardConfig with modelAtReset := 1 }.modelAtReset ∧ Holds tbExtra.cfg (.extra 0x2000) ∧
      { tb 3 with env := [.reset 1] }.env = .reset (modelId .office) :: [] :=
  ⟨by decide, .inr ⟨0x2000, by decide, rfl⟩, by decide⟩

theorem witness_LinkEvents :
    configWf State.reset.cfg = true ∧ State.reset.link = .unbound ∧ State.reset.env = [] ∧
      { State.reset with env := [.rebind] }.env = .rebind :: [] ∧
      { State.reset with env := [.chunk [0x02], .rebind] }.env = .chunk [0x02] :: [.rebind] ∧ inDispatch (tb 3).phase = false ∧
      { tb 3 with env := [.transportFail] }.env = .transportFail :: [] ∧
      nextIs (step { tb 3 with env := [.transportFail], phase := .dispatching v1 }) (fun _ => true) = true ∧
      inDispatch (.dispatching v1) = true := by decide

theorem witness_ReadEvents :
    (tb 3).link = .bound ∧ (tb 3).phase = .reading ∧ chunkFits (tb 3).cfg [] = true ∧
      chunkFits { standardConfig with chunkMax := some 1 } [0] = true ∧
      nextIs (step { tb 3 with env := [.timeout], phase := .scanning }) (fun _ => true) = true ∧
      nextIs (step { tb 3 with env := [.chunk [0]], phase := .responding v1 }) (fun _ => true) = true := by decide

theorem witness_ReadRound :
    configWf (tb 3).cfg = true ∧ AgentTurn { tb 3 with phase := .scanning, buf := v1 } { tb 3 with phase := .scanning, buf := v1 } ∧
      (scan v1).outcome = .found ∧ (scan (v1.take 8)).outcome = .partialFront ∧ (scan []).outcome = .noFrame :=
  ⟨by decide, ⟨rfl, .inl ⟨rfl, rfl⟩⟩, by decide, by decide, by decide⟩

theorem witness_OutputsAreNeverRead :
    SameButOutputs (tb 3) { tb 3 with tx := [v1], diag := [.txFailed] } ∧ nextIs (step (tb 3)) (fun _ => true) = true ∧
      nextIs (step { tb 3 with phase := .dispatching [] }) (fun _ => true) = false :=
  ⟨rfl, by decide, by decide⟩

theorem acceptable_v1 : Acceptable v1 0 := by
  unfold Acceptable
  exact ⟨by decide, by decide, by decide, by decide, fun h => absurd (h 0 (by decide)) (by decide), by decide⟩

theorem witness_Resynchronization :
    Acceptable v1 0 ∧ v1.length = 7 + candLen v1 0 ∧ (∀ i < 3, ¬Acceptable ([0xFF, 0x07, 0x55] ++ v1 ++ [0xAA]) i) ∧
      ¬FrontPartial ([0xFF, 0x07, 0x55] ++ v1 ++ [0xAA]) := by
  refine ⟨acceptable_v1, by decide, ?_, fun h => absurd h.2.1 (by decide)⟩
  intro i hi h
  have : i = 0 ∨ i = 1 ∨ i = 2 := by omega
  rcases this with rfl | rfl | rfl <;> exact absurd h.2.1 (by decide)

theorem witness_ScanNeverMisdelivers : (scan ([0xFF] ++ v1)).frame = some v1 := by decide

theorem witness_ScanWithoutFrame_partial : FrontPartial (v1.take 7) := by
  unfold FrontPartial
  decide

theorem witness_ScanWithoutFrame_none :
    ¬FrontPartial [] ∧ (∀ i, ¬Acceptable [] i) ∧ (scan (v1.take 7)).outcome = .partialFront :=
  ⟨fun h => absurd h.1 (by decide), fun _ h => absurd h.1 (by simp), by decide⟩

set_option maxRecDepth 20000 in
theorem witness_ScanMemoryBound :
    (List.replicate 256 (0xFF : Byte)).length ≤ 256 ∧ (List.replicate 128 (0xFF : Byte)).length ≤ 128 ∧
      (scan (List.replicate 256 0xFF ++ List.replicate 128 0xFF)).outcome = .noFrame := by decide

theorem witness_ChecksumForms : ([1, 2] : List Byte).Perm [2, 1] := List.Perm.swap 2 1 []

theorem witness_SealedFramesVerify :
    5 ≤ ([0, 0, 0, 0, 0] : List Byte).length ∧
      (([0, 0, 0, 0, 0] : List Byte).getD 4 0).toNat = ([0, 0, 0, 0, 0] : List Byte).length - 5 := by decide

theorem witness_VerifyByAddition : 7 + (v1.getD 4 0).toNat ≤ v1.length := by decide

theorem witness_SingleByteCorruptionCaught :
    verify v1 = true ∧ 10 < 7 + (v1.getD 4 0).toNat ∧ 10 ≠ 4 ∧ v1.getD 10 0 ≠ 0x46 ∧ 0 ≠ 4 ∧ v1.getD 0 0 ≠ 0x03 := by decide

end Sys2Proof.Tests
end

