-- ==== Sys2Proof/Proofs/Scope.lean ====
section
/-! What the next step fetches, by who has the turn and where the protocol agent stands, and that the step runs it. -/

namespace Sys2Proof.Machine

/-! ### Who has the turn -/

/-- Taking the turn leaves LINK bound: the agent steps only while BOUND (spec/10_state.md R32). -/
theorem AgentTurn.link_bound {s u : State} (h : AgentTurn s u) : u.link = .bound := by
  obtain ⟨hl, ⟨-, rfl⟩ | ⟨rest, -, rfl⟩ | ⟨e, rest, -, -, rfl⟩⟩ := h <;> exact hl

theorem AgentTurn.phase_eq {s u : State} (h : AgentTurn s u) : u.phase = s.phase := by
  obtain ⟨-, ⟨-, rfl⟩ | ⟨rest, -, rfl⟩ | ⟨e, rest, -, -, rfl⟩⟩ := h <;> rfl

@[simp] theorem defers_agent (s : State) : defers .agent s = false := by simp [defers]

@[simp] theorem defers_host (w : BitVec 32) (s : State) : defers (.host w) s = false := by simp [defers]

/-! ### What is fetched -/

theorem fetch_host {s : State} {w : BitVec 32} {rest : List Event} (h : s.env = .host w :: rest) :
    fetch s = some (.host w, { s with env := rest }) := by
  simp [fetch, h]

theorem fetch_of_agentTurn {s u : State} (h : AgentTurn s u) : fetch s = fetchAgent u := by
  obtain ⟨-, ⟨he, rfl⟩ | ⟨rest, he, rfl⟩ | ⟨e, rest, he, hd, rfl⟩⟩ := h
  · simp [fetch, he]
  · simp [fetch, he]
  · simp [fetch, he, hd]

theorem fetchAgent_dispatching {u : State} {f : List Byte} (hl : u.link = .bound) (hp : u.phase = .dispatching f) :
    fetchAgent u = some (.frame f, u) := by
  simp [fetchAgent, hl, hp]

theorem fetchAgent_writing {u : State} {a : Addr} {p0 p1 p2 p3 : Byte} {rest : List Byte} (hl : u.link = .bound)
    (hp : u.phase = .writing a (p0 :: p1 :: p2 :: p3 :: rest)) :
    fetchAgent u = some (.pair (pairWord p0 p1 p2 p3), { u with phase := .writing a rest }) := by
  simp [fetchAgent, hl, hp]

theorem fetchAgent_readingPoints {u : State} {a : Addr} {q0 q1 : Byte} {rest : List Byte} (hl : u.link = .bound)
    (hp : u.phase = .readingPoints a (q0 :: q1 :: rest)) :
    fetchAgent u = some (.clsnum (be16 q0 q1), { u with phase := .readingPoints a rest }) := by
  simp [fetchAgent, hl, hp]

/-! ### The step runs what is fetched -/

theorem step_eq_exec {s t : State} {c : Code} {i : Instr} (hw : configWf s.cfg = true) (hf : fetch s = some (c, t))
    (hd : decode c = .ok i) : step s = exec i t := by
  simp [step, hw, hf, hd]

/-- On the agent's turn the step runs the word at the agent's place in the dispatch. -/
theorem step_of_agentTurn {s u t : State} {c : Code} {i : Instr} (hw : configWf s.cfg = true) (ht : AgentTurn s u)
    (hf : fetchAgent u = some (c, t)) (hd : decode c = .ok i) : step s = exec i t :=
  step_eq_exec hw ((fetch_of_agentTurn ht).trans hf) hd

/-- Settles O5: each clause is the fetch of its port, run by `step_eq_exec`. -/
theorem stepRunsDecodedInstruction : Obligations.StepRunsDecodedInstruction := by
  refine ⟨?host, ?frame, ?pair, ?point⟩
  case host =>
    intro s w rest i hw he hd
    exact step_eq_exec hw (fetch_host he) hd
  case frame =>
    intro s u f i hw ht hp hd
    exact step_of_agentTurn hw ht (fetchAgent_dispatching ht.link_bound (ht.phase_eq.trans hp)) hd
  case pair =>
    intro s u a p0 p1 p2 p3 rest i hw ht hp hd
    exact step_of_agentTurn hw ht (fetchAgent_writing ht.link_bound (ht.phase_eq.trans hp)) hd
  case point =>
    intro s u a q0 q1 rest i hw ht hp hd
    exact step_of_agentTurn hw ht (fetchAgent_readingPoints ht.link_bound (ht.phase_eq.trans hp)) hd

end Sys2Proof.Machine
end

section
/-! The snapshot as R2S recomputes it, the registers after RESET, and the invariant at RESET
(spec/10_state.md R22, R24, R28). -/

namespace Sys2Proof.Machine

/-! ### R2S -/

/-- A field that falls back on itself falls back once. -/
theorem getD_getD_self {α : Type} (o : Option α) (x : α) : o.getD (o.getD x) = o.getD x := by
  cases o <;> rfl

theorem r2s_r2s (m : Model) (b : Bank) (S : Snapshot) : r2s m b (r2s m b S) = r2s m b S := by
  simp only [r2s, getD_getD_self]

theorem setpointOf_eq_some {r : U16} {n : Nat} : setpointOf r = some n ↔ (160 ≤ r.toNat ∧ r.toNat ≤ 300) ∧ r.toNat = n := by
  simp only [setpointOf, Option.ite_none_right_eq_some, Option.some.injEq]; rfl

theorem roomOf_eq_some {r : U16} {t : Int} : roomOf r = some t ↔ r.toNat ≤ 13000 ∧ (r.toNat : Int) - 5000 = t := by
  simp only [roomOf, Option.ite_none_right_eq_some, Option.some.injEq]
  simp only [rtMin, rtMax, rtOffset]
  omega

theorem snapshotOk_iff {S : Snapshot} :
    snapshotOk S = true ↔ (160 ≤ S.setpoint ∧ S.setpoint ≤ 300) ∧ -5000 ≤ S.room ∧ S.room ≤ 8000 := by
  simp only [snapshotOk, Bool.and_eq_true, decide_eq_true_eq, and_assoc]; rfl

/-- R2S keeps a snapshot within its types: a register that decodes decodes into the range (spec/10_state.md R22). -/
theorem snapshotOk_r2s (m : Model) (b : Bank) {S : Snapshot} (h : snapshotOk S = true) : snapshotOk (r2s m b S) = true := by
  obtain ⟨hset, hroom⟩ := snapshotOk_iff.mp h
  refine snapshotOk_iff.mpr ⟨?_, ?_⟩
  · show 160 ≤ (setpointOf b.setpt).getD S.setpoint ∧ (setpointOf b.setpt).getD S.setpoint ≤ 300
    cases hs : setpointOf b.setpt with
    | none => exact hset
    | some n =>
      obtain ⟨hr, rfl⟩ := setpointOf_eq_some.mp hs
      exact hr
  · show -5000 ≤ (roomOf b.roomt).getD S.room ∧ (roomOf b.roomt).getD S.room ≤ 8000
    cases hs : roomOf b.roomt with
    | none => exact hroom
    | some n =>
      obtain ⟨hr, rfl⟩ := roomOf_eq_some.mp hs
      simp only [Option.getD_some]
      omega

/-! ### R2S after a register write -/

theorem swingOf_bankWrite_of_notMem (b : Bank) {o : Obj} (x : U16) (h : o ∉ swingSet) :
    swingOf (bankWrite b o x) = swingOf b := by
  rw [Bool.eq_iff_iff, swingOf_eq_true, swingOf_eq_true]
  refine exists_congr fun a => and_congr_right fun ha => ?_
  rw [bankRead_bankWrite_other b x fun e => h (by rwa [← e])]

theorem swingOf_bankWriteAll_swingSet (b : Bank) : swingOf (bankWriteAll b swingSet 0) = false := by
  rw [Bool.eq_false_iff, Ne, swingOf_eq_true]
  rintro ⟨o, ho, hne⟩
  exact hne (by rw [bankRead_bankWriteAll, if_pos ho])

theorem r2s_bankWrite_onoff (m : Model) (b : Bank) (x : U16) (S : Snapshot) :
    r2s m (bankWrite b .onoff x) S = { r2s m b S with power := x != 0 } := by
  rw [r2s, swingOf_bankWrite_of_notMem b x (by decide)]; rfl

theorem r2s_bankWrite_mode (m : Model) (b : Bank) (x : U16) (S : Snapshot) :
    r2s m (bankWrite b .mode x) S = { r2s m b S with mode := (modeOf x).getD S.mode } := by
  rw [r2s, swingOf_bankWrite_of_notMem b x (by decide)]; rfl

theorem r2s_bankWrite_setpt (m : Model) (b : Bank) (x : U16) (S : Snapshot) :
    r2s m (bankWrite b .setpt x) S = { r2s m b S with setpoint := (setpointOf x).getD S.setpoint } := by
  rw [r2s, swingOf_bankWrite_of_notMem b x (by decide)]; rfl

theorem r2s_bankWrite_fan (m : Model) (b : Bank) (x : U16) (S : Snapshot) :
    r2s m (bankWrite b .fan x) S = { r2s m b S with fan := (fanOf x).getD S.fan } := by
  rw [r2s, swingOf_bankWrite_of_notMem b x (by decide)]; rfl

theorem r2s_bankWrite_roomt (m : Model) (b : Bank) (x : U16) (S : Snapshot) :
    r2s m (bankWrite b .roomt x) S = { r2s m b S with room := (roomOf x).getD S.room } := by
  rw [r2s, swingOf_bankWrite_of_notMem b x (by decide)]; rfl

/-- A per-vane register can move no field of the snapshot but swing. -/
theorem r2s_bankWrite_vane (m : Model) (b : Bank) (g : VaneGroup) (v : Vane) (x : U16) (S : Snapshot) :
    r2s m (bankWrite b (.vane g v) x) S = { r2s m b S with swing := swingOf (bankWrite b (.vane g v) x) } := by
  cases g <;> rfl

/-! ### The registers beyond the registry -/

theorem extraOk_iff {c : Config} {b : Bank} :
    extraOk c b = true ↔ cellsWf b.extra = true ∧ ∀ e ∈ b.extra, ∃ id ∈ c.extraObj, id.toNat = e.1 := by
  simp [extraOk]

/-- Writing a register of OBJ holds no cell that OBJ does not have. -/
theorem extraOk_bankWrite {c : Config} {b : Bank} {o : Obj} (x : U16) (ho : Holds c o) (h : extraOk c b = true) :
    extraOk c (bankWrite b o x) = true := by
  obtain ⟨hwf, hids⟩ := extraOk_iff.mp h
  refine extraOk_iff.mpr ⟨cellsWf_bankWrite o x hwf, fun e he => ?_⟩
  rcases ho with ho | ⟨id, hid, rfl⟩
  · rw [bankWrite_extra_of_ne b x (mem_registry.mp ho)] at he
    exact hids e he
  · rcases mem_cellsWrite he with he | rfl
    · exact hids e he
    · exact ⟨id, hid, rfl⟩

theorem bankWriteAll_extra_of_ne (b : Bank) {os : List Obj} (x : U16) (h : ∀ o ∈ os, ∀ id, o ≠ .extra id) :
    (bankWriteAll b os x).extra = b.extra := by
  induction os generalizing b with
  | nil => rfl
  | cons o t ih =>
    calc (bankWriteAll (bankWrite b o x) t x).extra
        = (bankWrite b o x).extra := ih _ fun p hp => h p (List.mem_cons_of_mem _ hp)
      _ = b.extra := bankWrite_extra_of_ne b x (h o List.mem_cons_self)

/-! ### The registers after RESET -/

/-- The registers of EXTRA_OBJ written with their reset values, one after the other. -/
def resetExtras (c : Config) (ids : List U16) (b : Bank) : Bank :=
  ids.foldl (fun b id => bankWrite b (.extra id) (cellsRead c.regReset id.toNat)) b

/-- RESET gives the registry its reset values, then EXTRA_OBJ. -/
theorem resetBank_eq (c : Config) :
    ∃ core, (∀ o ∈ registry, bankRead core o = cellsRead c.regReset (objId o).toNat) ∧ core.extra = [] ∧
      resetBank c = resetExtras c c.extraObj core := by
  refine ⟨_, fun o ho => ?_, ?_, rfl⟩
  · cases o with
    | vane g v => cases g <;> exact vaneGet_ofFn _ v
    | extra id => exact absurd rfl (mem_registry.mp ho id)
    | _ => rfl
  · rfl

theorem bankRead_resetExtras_registry (c : Config) (ids : List U16) (b : Bank) {o : Obj} (ho : o ∈ registry) :
    bankRead (resetExtras c ids b) o = bankRead b o := by
  induction ids generalizing b with
  | nil => rfl
  | cons id t ih => exact (ih _).trans (bankRead_bankWrite_other b _ (mem_registry.mp ho id))

theorem bankRead_resetExtras_extra (c : Config) {ids : List U16} (b : Bank) {id : U16}
    (h : id ∈ ids ∨ bankRead b (.extra id) = cellsRead c.regReset id.toNat) :
    bankRead (resetExtras c ids b) (.extra id) = cellsRead c.regReset id.toNat := by
  induction ids generalizing b with
  | nil => exact h.resolve_left List.not_mem_nil
  | cons a t ih =>
    refine ih _ ?_
    by_cases ha : a = id
    · exact .inr (ha ▸ bankRead_bankWrite_same b _ _)
    · refine h.imp (fun hm => (List.mem_cons.mp hm).resolve_left (Ne.symm ha)) fun hb => ?_
      rw [bankRead_bankWrite_other b _ fun e => ha (Obj.extra.inj e).symm, hb]

/-- REG[a] = REG_RESET(a) for every a of OBJ (spec/10_state.md R28). -/
theorem bankRead_resetBank {c : Config} {o : Obj} (ho : Holds c o) :
    bankRead (resetBank c) o = cellsRead c.regReset (objId o).toNat := by
  obtain ⟨core, hcore, -, he⟩ := resetBank_eq c
  rw [he]
  rcases ho with ho | ⟨id, hid, rfl⟩
  · rw [bankRead_resetExtras_registry c _ _ ho, hcore o ho]
  · exact bankRead_resetExtras_extra c _ (.inl hid)

theorem extraOk_resetExtras {c : Config} {ids : List U16} {b : Bank} (hids : ∀ id ∈ ids, id ∈ c.extraObj)
    (h : extraOk c b = true) : extraOk c (resetExtras c ids b) = true := by
  induction ids generalizing b with
  | nil => exact h
  | cons id t ih =>
    have hid : Holds c (.extra id) := .inr ⟨id, hids id List.mem_cons_self, rfl⟩
    exact ih (fun a ha => hids a (List.mem_cons_of_mem _ ha)) (extraOk_bankWrite _ hid h)

theorem extraOk_resetBank (c : Config) : extraOk c (resetBank c) = true := by
  obtain ⟨core, -, hx, he⟩ := resetBank_eq c
  rw [he]
  refine extraOk_resetExtras (fun _ h => h) (extraOk_iff.mpr ⟨?_, ?_⟩) <;> rw [hx]
  · rfl
  · simp

/-! ### RESET -/

theorem modelOfId_eq_some {n : Nat} {m : Model} : modelOfId n = some m ↔ modelId m = n := by
  unfold modelOfId
  constructor
  · intro h
    split at h <;> cases h <;> rfl
  · rintro rfl
    cases m <;> rfl

theorem modelAtReset_eq {c : Config} {m : Model} (h : modelId m = c.modelAtReset) : modelAtReset c = m := by
  rw [modelAtReset, modelOfId_eq_some.mpr h, Option.getD_some]

/-- RESET is fetched by nobody and never waits (notes/assumptions/21.md). -/
theorem step_reset {s : State} {id : Nat} {rest : List Event} (hw : configWf s.cfg = true) (he : s.env = .reset id :: rest) :
    step s = .next (resetStep id { s with env := rest }) := by
  have hd : defers (.reset id) s = false := by simp [defers]
  simp [step, hw, fetch, internalStep, he, hd, eventStep]

/-- Settles O47: the table is `State.resetWith` read off, the registers by `bankRead_resetBank`; the event is `step_reset`. -/
theorem resetValues : Obligations.ResetValues := by
  refine ⟨fun c m hm => ?_, fun s m rest hw he => ?_⟩
  · have hmodel := modelAtReset_eq hm
    refine ⟨rfl, rfl, hmodel, fun o ho => bankRead_resetBank ho, ?_, rfl, rfl⟩
    simp only [State.resetWith, hmodel]
  · have hid : (modelOfId (modelId m)).isSome := by rw [modelOfId_eq_some.mpr rfl, Option.isSome_some]
    rw [step_reset hw he, resetStep, if_pos hid]

/-! ### The invariant at RESET -/

/-- The part of the invariant that speaks of DeviceState: the snapshot consistent and within its types, registers only of OBJ. -/
def DeviceOk (s : State) : Prop := Consistent s ∧ snapshotOk s.snap = true ∧ extraOk s.cfg s.regs = true

/-- A state whose snapshot has just been recomputed from one within its types meets the invariant's part of DeviceState. -/
theorem deviceOk_of_r2s {s : State} {S : Snapshot} (hS : snapshotOk S = true) (hsnap : s.snap = r2s s.model s.regs S)
    (hx : extraOk s.cfg s.regs = true) : DeviceOk s := by
  refine ⟨?_, ?_, hx⟩
  · rw [Consistent, hsnap, r2s_r2s]
  · rw [hsnap]
    exact snapshotOk_r2s _ _ hS

theorem blockInvariant_iff {s : State} :
    BlockInvariant s ↔ configWf s.cfg = true ∧ DeviceOk s ∧ (s.link = .unbound → s.phase = .reading) ∧
      phaseOk s.phase s.entries = true ∧ s.tx.all responseOk = true := by
  simp only [BlockInvariant, DeviceOk, and_assoc]

theorem snapshotOk_of_configWf {c : Config} (h : configWf c = true) : snapshotOk c.snapSeed = true := by
  simp only [configWf, Bool.and_eq_true] at h
  obtain ⟨⟨⟨⟨⟨-, hseed⟩, -⟩, -⟩, -⟩, -⟩ := h
  exact hseed

theorem blockInvariant_resetWith {c : Config} (h : configWf c = true) : BlockInvariant (State.resetWith c) := by
  have hdev : DeviceOk (State.resetWith c) :=
    deviceOk_of_r2s (S := { c.snapSeed with model := modelAtReset c }) (snapshotOk_of_configWf h) rfl (extraOk_resetBank c)
  exact blockInvariant_iff.mpr ⟨h, hdev, fun _ => rfl, rfl, rfl⟩

/-- Settles O39: RESET leaves a recomputed snapshot, the registers of OBJ, and no dispatch. -/
theorem invariantAtReset : Obligations.InvariantAtReset :=
  ⟨fun _ h => blockInvariant_resetWith h, blockInvariant_resetWith (by decide)⟩

end Sys2Proof.Machine
end

section
/-! What the instruction behind each port does, said once: a pair is WRITE_OBJ, a class/number pair is one entry with its
STATUS, a found frame is one of the five commands, a host operation word is one section on DeviceState. -/

namespace Sys2Proof.Machine

/-- A word is the numeral of its value. -/
theorem eq_ofNat_of_toNat_eq {w n : Nat} {x : BitVec w} (h : x.toNat = n) : x = BitVec.ofNat w n := by
  rw [← h, BitVec.ofNat_toNat, BitVec.setWidth_eq]

/-! ### Pairs -/

/-- The row of a register of the registry is WRITE_OBJ of its id. -/
theorem exec_decodeObject_registry {o : Obj} (ho : o ∈ registry) (val : U16) (s : State) :
    exec (decodeObject (objId o) val) s = .next (writeObj (objId o) val s) := by
  cases o with
  | vane g v =>
    rw [writeObj_vane]
    cases g <;> fin_cases v <;> rfl
  | extra id => exact absurd rfl (mem_registry.mp ho id)
  | _ => rw [writeObj_plain (by decide)]; rfl

/-- An id outside the registry has the catch-all row. -/
theorem decodeObject_outside {id : U16} (h : id ∉ registryIds) (val : U16) : decodeObject id val = .wrUnknown id val := by
  unfold decodeObject
  split
  case h_37 => rfl
  all_goals
    next hk => exact absurd (eq_ofNat_of_toNat_eq hk ▸ by decide) h

/-- Every pair is WRITE_OBJ of its id and value (spec/43_object_writes.md R135). -/
theorem exec_decodeObject (id val : U16) (s : State) : exec (decodeObject id val) s = .next (writeObj id val s) := by
  by_cases h : id ∈ registryIds
  · obtain ⟨o, ho, rfl⟩ := List.mem_map.mp h
    exact exec_decodeObject_registry ho val s
  · rw [decodeObject_outside h, writeObj_outside h]; rfl

theorem decodePair_pairWord (p0 p1 p2 p3 : Byte) : decodePair (pairWord p0 p1 p2 p3) = decodeObject (be16 p0 p1) (be16 p2 p3) := by
  rw [decodePair, pairWord, BitVec.extractLsb'_append_eq_left, BitVec.extractLsb'_append_eq_right]

/-! ### Class/number pairs -/

/-- The class 0x01 addresses a per-vane register only by the twelve numbers of spec/44_capability.md R169. -/
theorem mem_capVaneNumbers_of_registryFind {num : Byte} {g : VaneGroup} {v : Vane}
    (h : registryFind (be16 0x01 num) = some (.vane g v)) : num ∈ capVaneNumbers := by
  have hid : objId (.vane g v) = be16 0x01 num := (objId_of_registryFind h).1
  have hcls : hi8 (objId (.vane g v)) = 0x01 := by rw [hid, hi8_be16]
  have hnum : num = lo8 (objId (.vane g v)) := by rw [hid, lo8_be16]
  rw [hnum]
  clear h hid hnum
  revert hcls
  cases g <;> revert v <;> decide

/-- A number of class 0x01 that is no per-vane number answers the capability constant. -/
theorem status_class1_of_notMem {num : Byte} (h : num ∉ capVaneNumbers) (s : State) : status 0x01 num s = capPoint num s := by
  show (match registryFind (be16 0x01 num) with
    | some (.vane g v) => vanePoint g v s
    | _ => capPoint num s) = capPoint num s
  split
  · next hf => exact absurd (mem_capVaneNumbers_of_registryFind hf) h
  · rfl

theorem exec_decodeCapability_of_notMem {num : Byte} (h : num ∉ capVaneNumbers) (s : State) :
    exec (decodeCapability num) s = .next (answerPoint 0x01 num (capPoint num s) s) := by
  unfold decodeCapability
  split
  case h_1 hk => rw [eq_ofNat_of_toNat_eq hk]; rfl
  case h_14 => rfl
  all_goals
    next hk => exact absurd (eq_ofNat_of_toNat_eq hk ▸ by decide) h

theorem exec_decodeCapability_of_mem {num : Byte} (h : num ∈ capVaneNumbers) (s : State) :
    exec (decodeCapability num) s = .next (answerPoint 0x01 num (status 0x01 num s) s) := by
  simp only [capVaneNumbers, List.mem_cons, List.not_mem_nil, or_false] at h
  rcases h with rfl | rfl | rfl | rfl | rfl | rfl | rfl | rfl | rfl | rfl | rfl | rfl <;> rfl

/-- A class with no row of its own has no STATUS (spec/44_capability.md R172). -/
theorem status_of_notMem {cls : Byte} (h : cls ∉ populatedClasses) (num : Byte) (s : State) : status cls num s = sentinel := by
  simp only [populatedClasses, List.mem_cons, List.not_mem_nil, or_false, not_or] at h
  obtain ⟨h0, h1, h10, h11⟩ := h
  rw [status, if_neg h0, if_neg h1, if_neg h10, if_neg h11]

/-- Every class/number pair adds one entry with its STATUS (spec/44_capability.md R165). -/
theorem exec_decodePoint (cls num : Byte) (s : State) :
    exec (decodePoint cls num) s = .next (answerPoint cls num (status cls num s) s) := by
  unfold decodePoint
  split
  case h_1 hk => rw [eq_ofNat_of_toNat_eq hk]; rfl
  case h_2 hk =>
    rw [eq_ofNat_of_toNat_eq hk]
    by_cases hn : num ∈ capVaneNumbers
    · exact exec_decodeCapability_of_mem hn s
    · exact (exec_decodeCapability_of_notMem hn s).trans (by rw [← status_class1_of_notMem hn]; rfl)
  case h_3 hk => rw [eq_ofNat_of_toNat_eq hk]; rfl
  case h_4 hk => rw [eq_ofNat_of_toNat_eq hk]; rfl
  case h_5 h0 h1 h10 h11 =>
    have hcls : cls ∉ populatedClasses := by
      simp only [populatedClasses, List.mem_cons, List.not_mem_nil, or_false, not_or]
      exact ⟨fun e => h0 (e ▸ rfl), fun e => h1 (e ▸ rfl), fun e => h10 (e ▸ rfl), fun e => h11 (e ▸ rfl)⟩
    rw [status_of_notMem hcls]; rfl

theorem decodeClsnum_be16 (q0 q1 : Byte) : decodeClsnum (be16 q0 q1) = decodePoint q0 q1 := by
  rw [decodeClsnum, ← hi8, ← lo8, hi8_be16, lo8_be16]

/-! ### Frames -/

/-- A frame decodes to one of the five commands. -/
theorem decodeFrame_cases {f : List Byte} {i : Instr} (h : decodeFrame f = .ok i) :
    ∃ a p, i = .cmd0 a p ∨ i = .cmd1 a p ∨ i = .cmd2 a p ∨ i = .cmd3Obj a p ∨ i = .cmd3Cls a p := by
  unfold decodeFrame at h
  split at h
  case h_2 => cases h
  case h_1 c a1 a2 a3 n body =>
    split at h
    · cases h
    split at h
    · cases h
    unfold decodeCommand at h
    split at h
    case h_1 => split at h <;> cases h; exact ⟨_, _, .inl rfl⟩
    case h_2 => cases h; exact ⟨_, _, .inr (.inl rfl)⟩
    case h_3 => cases h; exact ⟨_, _, .inr (.inr (.inl rfl))⟩
    case h_4 =>
      split at h <;> cases h
      · exact ⟨_, _, .inr (.inr (.inr (.inl rfl)))⟩
      · exact ⟨_, _, .inr (.inr (.inr (.inr rfl)))⟩
    case h_5 => cases h

/-! ### Host operations -/

/-- What every host operation does to a state with a consistent snapshot: the snapshot is as R2S would leave it, the registers
beyond the registry stay, and nothing moves but DeviceState and what goes out to the host (spec/45_state_sync.md R203, R204). -/
def HostSection (s t : State) : Prop :=
  t.snap = r2s t.model t.regs s.snap ∧ t.regs.extra = s.regs.extra ∧
    t = { s with model := t.model, regs := t.regs, snap := t.snap, persisted := t.persisted, returned := t.returned, diag := t.diag }

theorem hostSection_reject {s : State} (h : Consistent s) (op idx : Byte) (arg : U16) : HostSection s (reject op idx arg s) :=
  ⟨h, rfl, rfl⟩

/-- New registers and their snapshot, returned to the host. -/
theorem hostSection_returnSnapshot {s : State} {b : Bank} {snap : Snapshot} (hsnap : snap = r2s s.model b s.snap)
    (hx : b.extra = s.regs.extra) : HostSection s (returnSnapshot { s with regs := b, snap := snap }) :=
  ⟨hsnap, hx, rfl⟩

theorem hostSection_acceptWrite {s : State} {o : Obj} {x : U16} {snap : Snapshot} (ho : o ∈ registry)
    (hsnap : snap = r2s s.model (bankWrite s.regs o x) s.snap) : HostSection s (acceptWrite o x snap s) :=
  hostSection_returnSnapshot hsnap (bankWrite_extra_of_ne _ x (mem_registry.mp ho))

theorem vane_mem_registry (g : VaneGroup) (v : Vane) : .vane g v ∈ registry := mem_registry.mpr fun _ e => Obj.noConfusion e

theorem onOff_ne_zero (b : Bool) : (onOff b != 0) = b := by cases b <;> rfl

theorem execGetState_section {s : State} (h : Consistent s) (idx : Byte) (arg : U16) :
    ∃ t, execGetState idx arg s = .next t ∧ HostSection s t :=
  ⟨_, rfl, h, rfl, rfl⟩

theorem execGetCaps_section {s : State} (h : Consistent s) (idx : Byte) (arg : U16) :
    ∃ t, execGetCaps idx arg s = .next t ∧ HostSection s t :=
  ⟨_, rfl, h, rfl, rfl⟩

theorem execSetPower_section {s : State} (h : Consistent s) (idx : Byte) (arg : U16) :
    ∃ t, execSetPower idx arg s = .next t ∧ HostSection s t :=
  ⟨_, rfl, hostSection_acceptWrite (by decide) (by rw [r2s_bankWrite_onoff, ← h, onOff_ne_zero])⟩

theorem execSetMode_section {s : State} (h : Consistent s) (idx : Byte) (arg : U16) :
    ∃ t, execSetMode idx arg s = .next t ∧ HostSection s t := by
  unfold execSetMode
  cases hm : modeOf arg with
  | none => exact ⟨_, rfl, hostSection_reject h _ _ _⟩
  | some m => exact ⟨_, rfl, hostSection_acceptWrite (by decide) (by rw [r2s_bankWrite_mode, ← h, hm]; rfl)⟩

theorem execSetFan_section {s : State} (h : Consistent s) (idx : Byte) (arg : U16) :
    ∃ t, execSetFan idx arg s = .next t ∧ HostSection s t := by
  unfold execSetFan
  cases hf : fanOf arg with
  | none => exact ⟨_, rfl, hostSection_reject h _ _ _⟩
  | some f => exact ⟨_, rfl, hostSection_acceptWrite (by decide) (by rw [r2s_bankWrite_fan, ← h, hf]; rfl)⟩

/-- What SET_TEMP accepts, R2S accepts (spec/45_state_sync.md R182, R192). -/
theorem setpointOf_of_accepted {m : HvacMode} {arg : U16} (h : setpointAccepted m arg = true) : setpointOf arg = some arg.toNat := by
  simp only [setpointAccepted, Bool.and_eq_true, decide_eq_true_eq] at h
  obtain ⟨hlo, hhi⟩ := h
  have hlow : 160 ≤ setpointLow m := by cases m <;> decide
  exact setpointOf_eq_some.mpr ⟨⟨hlow.trans hlo, hhi⟩, rfl⟩

theorem execSetTemp_section {s : State} (h : Consistent s) (idx : Byte) (arg : U16) :
    ∃ t, execSetTemp idx arg s = .next t ∧ HostSection s t := by
  unfold execSetTemp
  split
  · next ha =>
    exact ⟨_, rfl, hostSection_acceptWrite (by decide) (by rw [r2s_bankWrite_setpt, ← h, setpointOf_of_accepted ha]; rfl)⟩
  · exact ⟨_, rfl, hostSection_reject h _ _ _⟩

/-- What SET_ROOMTEMP accepts, R2S reads back (spec/45_state_sync.md R183, R194). -/
theorem roomOf_of_accepted {t : Int} (h : roomAccepted t = true) : roomOf (roomRegister t) = some t := by
  simp only [roomAccepted, Bool.and_eq_true, decide_eq_true_eq] at h
  simp only [rtMin, rtMax] at h
  rw [roomOf_eq_some, roomRegister, BitVec.toNat_ofNat, rtOffset]
  omega

theorem execSetRoomTemp_section {s : State} (h : Consistent s) (idx : Byte) (arg : U16) :
    ∃ t, execSetRoomTemp idx arg s = .next t ∧ HostSection s t := by
  unfold execSetRoomTemp
  split
  · next ha =>
    exact ⟨_, rfl, hostSection_acceptWrite (by decide) (by rw [r2s_bankWrite_roomt, ← h, roomOf_of_accepted ha]; rfl)⟩
  · exact ⟨_, rfl, hostSection_reject h _ _ _⟩

/-- A register of SWINGSET that is not 0 turns swing on. -/
theorem swingOf_bankWrite_of_mem (b : Bank) {o : Obj} {x : U16} (ho : o ∈ swingSet) (hx : x ≠ 0) :
    swingOf (bankWrite b o x) = true :=
  swingOf_eq_true.mpr ⟨o, ho, by rwa [bankRead_bankWrite_same]⟩

theorem r2s_bankWrite_vswgG (m : Model) (b : Bank) (x : U16) (S : Snapshot) :
    r2s m (bankWrite b .vswgG x) S = { r2s m b S with swing := swingOf (bankWrite b .vswgG x) } := rfl

theorem swingSet_subset_registry : swingSet ⊆ registry := by decide

/-- Clearing SWINGSET moves swing alone. -/
theorem r2s_bankWriteAll_swingSet (m : Model) (b : Bank) (S : Snapshot) :
    r2s m (bankWriteAll b swingSet 0) S = { r2s m b S with swing := false } := by
  have hkept : ∀ o ∉ swingSet, bankRead (bankWriteAll b swingSet 0) o = bankRead b o := fun o ho => by
    rw [bankRead_bankWriteAll, if_neg ho]
  have honoff : (bankWriteAll b swingSet 0).onoff = b.onoff := hkept .onoff (by decide)
  have hmode : (bankWriteAll b swingSet 0).mode = b.mode := hkept .mode (by decide)
  have hsetpt : (bankWriteAll b swingSet 0).setpt = b.setpt := hkept .setpt (by decide)
  have hfan : (bankWriteAll b swingSet 0).fan = b.fan := hkept .fan (by decide)
  have hroomt : (bankWriteAll b swingSet 0).roomt = b.roomt := hkept .roomt (by decide)
  simp only [r2s, powerOf, swingOf_bankWriteAll_swingSet, honoff, hmode, hsetpt, hfan, hroomt]

theorem execSetSwing_section {s : State} (h : Consistent s) (idx : Byte) (arg : U16) :
    ∃ t, execSetSwing idx arg s = .next t ∧ HostSection s t := by
  unfold execSetSwing
  split
  · exact ⟨_, rfl, hostSection_acceptWrite (by decide)
      (by rw [r2s_bankWrite_vswgG, ← h, swingOf_bankWrite_of_mem _ (by decide) (by decide)])⟩
  · refine ⟨_, rfl, hostSection_returnSnapshot ?_ ?_⟩
    · rw [r2s_bankWriteAll_swingSet, ← h]
    · exact bankWriteAll_extra_of_ne _ _ fun o ho => mem_registry.mp (swingSet_subset_registry ho)

theorem execSetModel_section {s : State} (h : Consistent s) (idx : Byte) (arg : U16) :
    ∃ t, execSetModel idx arg s = .next t ∧ HostSection s t := by
  unfold execSetModel
  split
  · exact ⟨_, rfl, rfl, bankWriteAll_extra_of_ne _ _ fun o ho => mem_registry.mp (List.mem_append_right _ ho), rfl⟩
  · exact ⟨_, rfl, hostSection_reject h _ _ _⟩

/-- A vane position moves no field of the snapshot. -/
theorem r2s_bankWrite_position (m : Model) (b : Bank) {g : VaneGroup} (hg : g.kind = .position) (v : Vane) (x : U16) (S : Snapshot) :
    r2s m (bankWrite b (.vane g v) x) S = r2s m b S := by
  have hmem : Obj.vane g v ∉ swingSet := by
    cases g with
    | vdir | xvpos | xhpos => revert v; decide
    | _ => cases hg
  rw [r2s_bankWrite_vane, swingOf_bankWrite_of_notMem b x hmem]; rfl

theorem execSetVvanePos_section {s : State} (h : Consistent s) (idx : Byte) (arg : U16) :
    ∃ t, execSetVvanePos idx arg s = .next t ∧ HostSection s t := by
  unfold execSetVvanePos
  split
  · exact ⟨_, rfl, hostSection_acceptWrite (vane_mem_registry _ _) (by rw [r2s_bankWrite_position _ _ rfl, ← h])⟩
  · exact ⟨_, rfl, hostSection_reject h _ _ _⟩

theorem execSetHvanePos_section {s : State} (h : Consistent s) (idx : Byte) (arg : U16) :
    ∃ t, execSetHvanePos idx arg s = .next t ∧ HostSection s t := by
  unfold execSetHvanePos
  split
  · exact ⟨_, rfl, hostSection_acceptWrite (vane_mem_registry _ _) (by rw [r2s_bankWrite_position _ _ rfl, ← h])⟩
  · exact ⟨_, rfl, hostSection_reject h _ _ _⟩

theorem execSetVvaneSwing_section {s : State} (h : Consistent s) (idx : Byte) (arg : U16) :
    ∃ t, execSetVvaneSwing idx arg s = .next t ∧ HostSection s t := by
  unfold execSetVvaneSwing
  split
  · exact ⟨_, rfl, hostSection_acceptWrite (vane_mem_registry _ _) (by rw [r2s_bankWrite_vane, ← h])⟩
  · exact ⟨_, rfl, hostSection_reject h _ _ _⟩

theorem execSetHvaneSwing_section {s : State} (h : Consistent s) (idx : Byte) (arg : U16) :
    ∃ t, execSetHvaneSwing idx arg s = .next t ∧ HostSection s t := by
  unfold execSetHvaneSwing
  split
  · exact ⟨_, rfl, hostSection_acceptWrite (vane_mem_registry _ _) (by rw [r2s_bankWrite_vane, ← h])⟩
  · exact ⟨_, rfl, hostSection_reject h _ _ _⟩

/-- Every host operation word is one section on DeviceState that keeps the snapshot consistent (spec/45_state_sync.md R204). -/
theorem exec_decodeHostOp_section {s : State} (h : Consistent s) (op idx : Byte) (arg : U16) :
    ∃ t, exec (decodeHostOp op idx arg) s = .next t ∧ HostSection s t := by
  unfold decodeHostOp
  split
  · exact execGetState_section h idx arg
  · exact execSetPower_section h idx arg
  · exact execSetMode_section h idx arg
  · exact execSetTemp_section h idx arg
  · exact execSetFan_section h idx arg
  · exact execSetSwing_section h idx arg
  · exact execSetRoomTemp_section h idx arg
  · exact execSetModel_section h idx arg
  · exact execGetCaps_section h idx arg
  · exact execSetVvanePos_section h idx arg
  · exact execSetVvaneSwing_section h idx arg
  · exact execSetHvanePos_section h idx arg
  · exact execSetHvaneSwing_section h idx arg
  · exact ⟨_, rfl, hostSection_reject h _ _ _⟩

end Sys2Proof.Machine
end

section
/-! Every step keeps the invariant: DeviceState through each section, the agent's place and its outputs through each step
(spec/10_state.md R22, R24, R32, spec/42_dispatch.md R127, R131). -/

namespace Sys2Proof.Machine

/-! ### The agent's places -/

theorem phaseOk_reading {es : List Byte} : phaseOk .reading es = true ↔ es = [] := List.isEmpty_iff

theorem phaseOk_scanning {es : List Byte} : phaseOk .scanning es = true ↔ es = [] := List.isEmpty_iff

theorem phaseOk_dispatching {f es : List Byte} : phaseOk (.dispatching f) es = true ↔ deliverable f = true ∧ es = [] := by
  simp only [phaseOk, Bool.and_eq_true, List.isEmpty_iff]

theorem phaseOk_writing {a : Addr} {rest es : List Byte} : phaseOk (.writing a rest) es = true ↔ rest.length ≤ 50 ∧ es = [] := by
  simp only [phaseOk, Bool.and_eq_true, List.isEmpty_iff, decide_eq_true_eq]; rfl

theorem phaseOk_readingObjects {a : Addr} {rest es : List Byte} :
    phaseOk (.readingObjects a rest) es = true ↔ es.length + rest.length ≤ 50 := by
  simp only [phaseOk, decide_eq_true_eq]; rfl

theorem phaseOk_readingPoints {a : Addr} {rest es : List Byte} :
    phaseOk (.readingPoints a rest) es = true ↔ es.length + 2 * rest.length ≤ 100 := by
  simp only [phaseOk, decide_eq_true_eq]; rfl

theorem phaseOk_responding {r es : List Byte} : phaseOk (.responding r) es = true ↔ responseOk r = true ∧ es = [] := by
  simp only [phaseOk, Bool.and_eq_true, List.isEmpty_iff]

/-! ### DeviceState through the sections -/

theorem deviceOk_writePlain {s : State} {o : Obj} (x : U16) (ho : Holds s.cfg o) (h : DeviceOk s) : DeviceOk (writePlain o x s) := by
  obtain ⟨-, hsnap, hx⟩ := h
  exact deviceOk_of_r2s hsnap rfl (extraOk_bankWrite x ho hx)

theorem deviceOk_writeObj {s : State} (id val : U16) (h : DeviceOk s) : DeviceOk (writeObj id val s) := by
  rcases writeObj_cases id val s with ⟨o, x, ho, he⟩ | ⟨c, he⟩ <;> rw [he]
  · exact deviceOk_writePlain x ho h
  · exact h

theorem deviceOk_of_hostSection {s t : State} (hs : DeviceOk s) (h : HostSection s t) : DeviceOk t := by
  obtain ⟨-, hsnap, hx⟩ := hs
  obtain ⟨hr2s, hextra, hframe⟩ := h
  have hcfg : t.cfg = s.cfg := by rw [hframe]
  refine deviceOk_of_r2s hsnap hr2s ?_
  rwa [extraOk, hextra, hcfg]

/-! ### The agent with a dispatch under way -/

/-- The invariant but for the agent's place, while LINK is BOUND. -/
def LiveOk (s : State) : Prop :=
  configWf s.cfg = true ∧ DeviceOk s ∧ s.link = .bound ∧ s.tx.all responseOk = true

theorem liveOk_of_blockInvariant {s : State} (h : BlockInvariant s) (hl : s.link = .bound) : LiveOk s := by
  obtain ⟨hw, hdev, -, -, htx⟩ := blockInvariant_iff.mp h
  exact ⟨hw, hdev, hl, htx⟩

theorem phaseOk_of_blockInvariant {s : State} (h : BlockInvariant s) : phaseOk s.phase s.entries = true := by
  obtain ⟨-, -, -, hp, -⟩ := blockInvariant_iff.mp h
  exact hp

/-- With LINK BOUND any place that fits the protocol will do. -/
theorem blockInvariant_of_liveOk {s : State} (h : LiveOk s) (hp : phaseOk s.phase s.entries = true) : BlockInvariant s := by
  obtain ⟨hw, hdev, hl, htx⟩ := h
  exact blockInvariant_iff.mpr ⟨hw, hdev, fun hu => Link.noConfusion (hl.symm.trans hu), hp, htx⟩

theorem liveOk_writeObj {s : State} (id val : U16) (h : LiveOk s) : LiveOk (writeObj id val s) := by
  obtain ⟨hw, hdev, hl, htx⟩ := h
  have hdev' := deviceOk_writeObj id val hdev
  rw [writeObj_frame] at hdev' ⊢
  exact ⟨hw, hdev', hl, htx⟩

theorem liveOk_writePairs {p : List Byte} {s : State} (h : LiveOk s) : LiveOk (writePairs p s) := by
  fun_induction writePairs p s with
  | case1 p0 p1 p2 p3 rest s ih => exact ih (liveOk_writeObj _ _ h)
  | case2 => exact h

theorem liveOk_readObject {s : State} (id : U16) (h : LiveOk s) : LiveOk (readObject id s) := by
  rw [readObject_frame]
  exact h

theorem liveOk_readObjects {p : List Byte} {s : State} (h : LiveOk s) : LiveOk (readObjects p s) := by
  fun_induction readObjects p s with
  | case1 p0 p1 p2 p3 rest s ih => exact ih (liveOk_readObject _ h)
  | case2 => exact h

theorem liveOk_readPoints {p : List Byte} {s : State} (h : LiveOk s) : LiveOk (readPoints p s) := by
  fun_induction readPoints p s with
  | case1 q0 q1 rest s ih => exact ih h
  | case2 => exact h

/-! ### How much a CMD3 answers -/

theorem readObjects_entries_length_le (p : List Byte) (s : State) :
    (readObjects p s).entries.length ≤ s.entries.length + p.length := by
  fun_induction readObjects p s with
  | case1 p0 p1 p2 p3 rest s ih =>
    rw [readObject_entries_length] at ih
    simp only [List.length_cons]
    omega
  | case2 => omega

@[simp] theorem statusEntry_length (cls num : Byte) (st : U16) : (statusEntry cls num st).length = 4 := rfl

theorem readPoints_entries_length_le (p : List Byte) (s : State) :
    (readPoints p s).entries.length ≤ s.entries.length + 2 * p.length := by
  fun_induction readPoints p s with
  | case1 q0 q1 rest s ih =>
    simp only [answerPoint_entries, List.length_append, statusEntry_length] at ih
    simp only [List.length_cons]
    omega
  | case2 => omega

/-! ### Responses -/

/-- VERIFY of SEAL (spec/40_checksum.md R90). -/
theorem verify_sealFrame {h : List Byte} (h5 : 5 ≤ h.length) (hn : (h.getD 4 0).toNat = h.length - 5) :
    verify (sealFrame h) = true := by
  have hget : (sealFrame h).getD 4 0 = h.getD 4 0 := List.getD_append _ _ _ _ h5
  have hlen : 5 + ((sealFrame h).getD 4 0).toNat = h.length := by rw [hget, hn]; omega
  have hlen' : 6 + ((sealFrame h).getD 4 0).toNat = h.length + 1 := by omega
  rw [verify_of_le (by rw [sealFrame_length]; omega), hlen, hlen']
  simp [sealFrame]

theorem response_length (c : Byte) (a : Addr) (body : List Byte) : (response c a body).length = body.length + 7 := by
  simp [response, addrBytes]

/-- Every response whose body fits is one the protocol allows (spec/42_dispatch.md R127, R131). -/
theorem responseOk_response {c : Byte} (a : Addr) {body : List Byte} (hc : c ∈ cmdSet) (hb : body.length ≤ 102) :
    responseOk (response c a body) = true := by
  have hv : verify (response c a body) = true := by
    have hbyte : (BitVec.ofNat 8 body.length).toNat = body.length := Nat.mod_eq_of_lt (by omega)
    exact verify_sealFrame (by simp [addrBytes]) (hbyte.trans (by simp [addrBytes]))
  have hl : (response c a body).length ≤ 109 := by rw [response_length]; omega
  have hcmd : (response c a body).getD 0 0 = c := rfl
  simp only [responseOk, hv, hcmd, List.contains_iff_mem.mpr hc, decide_eq_true hl, Bool.and_self]

theorem blockInvariant_respondWith {s : State} {c : Byte} (a : Addr) {body : List Byte} (h : LiveOk s) (hc : c ∈ cmdSet)
    (hb : body.length ≤ 102) : BlockInvariant (respondWith c a body s) :=
  blockInvariant_of_liveOk (s := respondWith c a body s) h (phaseOk_responding.mpr ⟨responseOk_response a hc hb, rfl⟩)

theorem blockInvariant_respondQuery {s : State} (a : Addr) (h : LiveOk s) (he : s.entries.length ≤ 100) :
    BlockInvariant (respondQuery a s) :=
  blockInvariant_respondWith a h (by decide) (by simp [queryBody]; omega)

/-! ### The five commands -/

theorem handshakeBody_length_le (e : Option EchoBody) : (handshakeBody e).length ≤ 4 := by
  cases e <;> simp [handshakeBody, echoBytes]

theorem execCmd2_keeps {s t : State} {a : Addr} {p : List Byte} (h : LiveOk s) (ht : execCmd2 a p s = .next t) :
    BlockInvariant t := by
  obtain ⟨hp, rfl⟩ := guardLength_eq_next.mp ht
  split
  · exact blockInvariant_of_liveOk h (phaseOk_writing.mpr ⟨hp, rfl⟩)
  · exact blockInvariant_respondWith a (liveOk_writePairs h) (by decide) (by decide)

theorem execCmd3Obj_keeps {s t : State} {a : Addr} {p : List Byte} (h : LiveOk s) (ht : execCmd3Obj a p s = .next t) :
    BlockInvariant t := by
  obtain ⟨hp, rfl⟩ := guardLength_eq_next.mp ht
  split
  · exact blockInvariant_of_liveOk h (phaseOk_readingObjects.mpr ((Nat.zero_add _).trans_le hp))
  · have hlen := readObjects_entries_length_le p { s with entries := [] }
    refine blockInvariant_respondQuery a (liveOk_readObjects h) (hlen.trans ?_)
    simp only [lenMax, List.length_nil] at *
    omega

theorem execCmd3Cls_keeps {s t : State} {a : Addr} {p : List Byte} (h : LiveOk s) (ht : execCmd3Cls a p s = .next t) :
    BlockInvariant t := by
  obtain ⟨hp, rfl⟩ := guardLength_eq_next.mp ht
  split
  · exact blockInvariant_of_liveOk h (phaseOk_readingPoints.mpr ((Nat.zero_add _).trans_le (Nat.mul_le_mul_left 2 hp)))
  · have hlen := readPoints_entries_length_le p { s with entries := [] }
    refine blockInvariant_respondQuery a (liveOk_readPoints h) (hlen.trans ?_)
    simp only [lenMax, List.length_nil] at *
    omega

/-- Whatever frame is dispatched, the command leaves a place that fits the protocol. -/
theorem exec_decodeFrame_keeps {s t : State} {f : List Byte} {i : Instr} (h : LiveOk s) (hd : decodeFrame f = .ok i)
    (ht : exec i s = .next t) : BlockInvariant t := by
  obtain ⟨a, p, rfl | rfl | rfl | rfl | rfl⟩ := decodeFrame_cases hd
  · obtain ⟨-, rfl⟩ := guardLength_eq_next.mp ht
    exact blockInvariant_respondWith a h (by decide) ((handshakeBody_length_le _).trans (by decide))
  · obtain ⟨-, rfl⟩ := guardLength_eq_next.mp ht
    exact blockInvariant_respondWith a h (by decide) ((handshakeBody_length_le _).trans (by decide))
  · exact execCmd2_keeps h ht
  · exact execCmd3Obj_keeps h ht
  · exact execCmd3Cls_keeps h ht

/-! ### The agent runs an instruction -/

theorem exec_fetchAgent_keeps {s u t : State} {c : Code} {i : Instr} (h : BlockInvariant s) (hf : fetchAgent s = some (c, u))
    (hd : decode c = .ok i) (ht : exec i u = .next t) : BlockInvariant t := by
  have hp := phaseOk_of_blockInvariant h
  obtain ⟨hl, hcase⟩ := fetchAgent_cases hf
  have hlive := liveOk_of_blockInvariant h hl
  rcases hcase with ⟨f, -, rfl, rfl⟩ | ⟨a, p0, p1, p2, p3, rest, hph, rfl, rfl⟩ | ⟨a, q0, q1, rest, hph, rfl, rfl⟩
  case inl => exact exec_decodeFrame_keeps hlive hd ht
  case inr.inl =>
    cases hd
    rw [decodePair_pairWord, exec_decodeObject] at ht
    cases ht
    refine blockInvariant_of_liveOk (liveOk_writeObj _ _ hlive) ?_
    rw [hph] at hp
    obtain ⟨hrest, hes⟩ := phaseOk_writing.mp hp
    simp only [List.length_cons] at hrest
    rw [writeObj_frame]
    exact phaseOk_writing.mpr ⟨by omega, hes⟩
  case inr.inr =>
    cases hd
    rw [decodeClsnum_be16, exec_decodePoint] at ht
    cases ht
    refine blockInvariant_of_liveOk hlive ?_
    rw [hph] at hp
    have hroom := phaseOk_readingPoints.mp hp
    simp only [List.length_cons] at hroom
    refine phaseOk_readingPoints.mpr ?_
    simp only [answerPoint_entries, List.length_append, statusEntry_length]
    omega

/-! ### SCAN delivers what the dispatcher takes -/

/-- The command decodes whatever it carries, but for the idle pattern. -/
theorem decodeCommand_isOk {c : Byte} (hc : c.toNat ≤ 3) {a : Addr} {p : List Byte} (hidle : c = 0 → idleFrame a p = false) :
    (decodeCommand c a p).isOk = true := by
  obtain h | h | h | h : c.toNat = 0 ∨ c.toNat = 1 ∨ c.toNat = 2 ∨ c.toNat = 3 := by omega
  · simp [decodeCommand, h, hidle (eq_ofNat_of_toNat_eq h), Except.isOk, Except.toBool]
  · simp [decodeCommand, h, Except.isOk, Except.toBool]
  · simp [decodeCommand, h, Except.isOk, Except.toBool]
  · by_cases hm : objectMode p = true <;> simp [decodeCommand, h, hm, Except.isOk, Except.toBool]

/-- A frame as long as its length byte declares is decoded by its command. -/
theorem decodeFrame_of_length {c a1 a2 a3 n : Byte} {body : List Byte} (hn : n.toNat ≤ lenMax)
    (hbody : body.length = n.toNat + cksLen) :
    decodeFrame (c :: a1 :: a2 :: a3 :: n :: body) = decodeCommand c ⟨a1, a2, a3⟩ (body.take n.toNat) := by
  rw [decodeFrame, if_neg (Nat.not_lt.mpr hn), if_neg (not_not.mpr hbody)]

/-- A candidate that passes the tests of spec/41_frame_sync.md R104 is a frame the dispatcher takes. -/
theorem deliverable_candidate {l : List Byte} (h : Acceptable l 0) : deliverable (candidate l 0) = true := by
  obtain ⟨hlen, hcmd, hn, havail, hidle, hv⟩ := h
  obtain ⟨c, a1, a2, a3, n, body, rfl⟩ : ∃ c a1 a2 a3 n body, l = c :: a1 :: a2 :: a3 :: n :: body := by
    match l, hlen with
    | c :: a1 :: a2 :: a3 :: n :: body, _ => exact ⟨c, a1, a2, a3, n, body, rfl⟩
  have hcand : candidate (c :: a1 :: a2 :: a3 :: n :: body) 0 = c :: a1 :: a2 :: a3 :: n :: body.take (n.toNat + 2) := by
    have hcount : 7 + n.toNat = n.toNat + 2 + 1 + 1 + 1 + 1 + 1 := by omega
    show List.take (7 + n.toNat) (c :: a1 :: a2 :: a3 :: n :: body) = _
    rw [hcount]; rfl
  have hn50 : n.toNat ≤ lenMax := hn
  have hbody : (body.take (n.toNat + 2)).length = n.toNat + 2 := by
    have : 0 + 7 + n.toNat ≤ body.length + 5 := havail
    rw [List.length_take]
    omega
  have hdecode : decodeFrame (candidate (c :: a1 :: a2 :: a3 :: n :: body) 0) =
      decodeCommand c ⟨a1, a2, a3⟩ ((body.take (n.toNat + 2)).take n.toNat) := by
    rw [hcand, decodeFrame_of_length hn50 hbody]
  have hnotIdle : c = 0 → idleFrame ⟨a1, a2, a3⟩ ((body.take (n.toNat + 2)).take n.toNat) = false := by
    rintro rfl
    rw [Bool.eq_false_iff]
    intro hi
    simp only [idleFrame, Bool.and_eq_true, beq_iff_eq, List.length_take] at hi
    obtain ⟨⟨⟨rfl, rfl⟩, rfl⟩, hlen0⟩ := hi
    have hn0 : n.toNat = 0 := by rw [List.length_take] at hbody; omega
    obtain rfl := eq_ofNat_of_toNat_eq hn0
    exact hidle ((idleHeader_iff _).mp rfl)
  rw [deliverable, hv, hdecode, decodeCommand_isOk (c := c) hcmd hnotIdle]; rfl

/-- What the loop of SCAN accepts is a candidate that passes the tests. -/
theorem acceptable_of_scanFrom {i : Nat} {l f rest : List Byte} (h : (scanFrom i l).1 = .accepted f rest) :
    ∃ l', Acceptable l' 0 ∧ f = candidate l' 0 := by
  induction l generalizing i with
  | nil => cases h
  | cons b t ih =>
    rw [scanFrom] at h
    split at h
    · cases h
    · next hlen =>
      split at h
      · next f' rest' hj =>
        cases h
        obtain ⟨hacc, hf, -⟩ := (judge_eq_accept i (b :: t) f rest (Nat.not_lt.mp hlen)).mp hj
        exact ⟨b :: t, hacc, hf⟩
      · cases h
      · exact ih h

/-- A frame found is deliverable (spec/41_frame_sync.md R112). -/
theorem deliverable_of_scan {buf f : List Byte} (h : (scan buf).frame = some f) : deliverable f = true := by
  unfold scan at h
  split at h
  · next f' rest cs hs =>
    cases h
    obtain ⟨l, hl, rfl⟩ := acceptable_of_scanFrom (congrArg Prod.fst hs)
    exact deliverable_candidate hl
  · cases h
  · split at h <;> cases h

/-! ### The agent's own steps -/

theorem scanStep_found {s : State} {f : List Byte} (h : (scan s.buf).frame = some f) :
    scanStep s = { s with
      buf := (scan s.buf).buf, scans := s.scans ++ [(scan s.buf).outcome], diag := s.diag ++ (scan s.buf).conds
      phase := .dispatching f, reads := s.reads ++ [.frame f] } := by
  simp only [scanStep, h]

theorem scanStep_notFound {s : State} (h : (scan s.buf).frame = none) :
    scanStep s = { s with
      buf := (scan s.buf).buf, scans := s.scans ++ [(scan s.buf).outcome], diag := s.diag ++ (scan s.buf).conds
      phase := .reading } := by
  simp only [scanStep, h]

theorem scanStep_keeps {s : State} (h : LiveOk s) (he : s.entries = []) : BlockInvariant (scanStep s) := by
  cases hf : (scan s.buf).frame with
  | some f =>
    rw [scanStep_found hf]
    exact blockInvariant_of_liveOk h (phaseOk_dispatching.mpr ⟨deliverable_of_scan hf, he⟩)
  | none =>
    rw [scanStep_notFound hf]
    exact blockInvariant_of_liveOk h (phaseOk_reading.mpr he)

/-- TX hands over a response the protocol allows. -/
theorem transmit_keeps {s : State} {r : List Byte} (h : LiveOk s) (hr : responseOk r = true) (he : s.entries = []) :
    BlockInvariant (transmit r s) := by
  obtain ⟨hw, hdev, hl, htx⟩ := h
  have htx' : (s.tx ++ [r]).all responseOk = true := by simp [List.all_append, htx, hr]
  exact blockInvariant_of_liveOk (s := transmit r s) ⟨hw, hdev, hl, htx'⟩ (phaseOk_reading.mpr he)

/-- What the protocol agent does where it runs no instruction. -/
theorem agentStep_cases (s : State) :
    agentStep s = s ∨ (s.phase = .scanning ∧ agentStep s = scanStep s) ∨
      (∃ a rest, s.phase = .writing a rest ∧ agentStep s = respondWith 0x02 a [ackByte] s) ∨
      (∃ a p0 p1 p2 p3 rest, s.phase = .readingObjects a (p0 :: p1 :: p2 :: p3 :: rest) ∧
        agentStep s = { readObject (be16 p0 p1) s with phase := .readingObjects a rest }) ∨
      (∃ a rest, (s.phase = .readingObjects a rest ∨ s.phase = .readingPoints a rest) ∧ agentStep s = respondQuery a s) ∨
      ∃ r, s.phase = .responding r ∧ agentStep s = transmit r s := by
  unfold agentStep
  split
  case h_1 => exact .inl rfl
  case h_2 hp => exact .inr (.inl ⟨hp, rfl⟩)
  case h_3 => exact .inl rfl
  case h_4 a rest hp => exact .inr (.inr (.inl ⟨a, rest, hp, rfl⟩))
  case h_5 a p0 p1 p2 p3 rest hp => exact .inr (.inr (.inr (.inl ⟨a, p0, p1, p2, p3, rest, hp, rfl⟩)))
  case h_6 a rest _ hp => exact .inr (.inr (.inr (.inr (.inl ⟨a, rest, .inl hp, rfl⟩))))
  case h_7 a rest hp => exact .inr (.inr (.inr (.inr (.inl ⟨a, rest, .inr hp, rfl⟩))))
  case h_8 r hp => exact .inr (.inr (.inr (.inr (.inr ⟨r, hp, rfl⟩))))

theorem agentStep_keeps {s : State} (h : BlockInvariant s) (hl : s.link = .bound) : BlockInvariant (agentStep s) := by
  have hlive := liveOk_of_blockInvariant h hl
  have hp := phaseOk_of_blockInvariant h
  rcases agentStep_cases s with he | ⟨hph, he⟩ | ⟨a, rest, -, he⟩ | ⟨a, p0, p1, p2, p3, rest, hph, he⟩ | ⟨a, rest, hph, he⟩ |
      ⟨r, hph, he⟩ <;> rw [he]
  case inl => exact h
  case inr.inl =>
    rw [hph] at hp
    exact scanStep_keeps hlive (phaseOk_scanning.mp hp)
  case inr.inr.inl => exact blockInvariant_respondWith a hlive (by decide) (by decide)
  case inr.inr.inr.inl =>
    refine blockInvariant_of_liveOk (liveOk_readObject _ hlive) ?_
    rw [hph] at hp
    have hroom := phaseOk_readingObjects.mp hp
    simp only [List.length_cons] at hroom
    refine phaseOk_readingObjects.mpr ?_
    rw [readObject_entries_length]
    omega
  case inr.inr.inr.inr.inl =>
    refine blockInvariant_respondQuery a hlive ?_
    rcases hph with hph | hph <;> rw [hph] at hp
    · have hroom := phaseOk_readingObjects.mp hp
      omega
    · have hroom := phaseOk_readingPoints.mp hp
      omega
  case inr.inr.inr.inr.inr =>
    rw [hph] at hp
    obtain ⟨hr, hes⟩ := phaseOk_responding.mp hp
    exact transmit_keeps hlive hr hes

theorem agentTurn_keeps {s : State} (h : BlockInvariant s) : BlockInvariant (agentTurn s) := by
  unfold agentTurn
  split
  · next hl => exact agentStep_keeps h hl
  · exact h

/-! ### The environment's events -/

/-- The id that a RESET event brings keeps the configuration well formed. -/
theorem configWf_modelAtReset {c : Config} {id : Nat} (h : configWf c = true) (hid : (modelOfId id).isSome = true) :
    configWf { c with modelAtReset := id } = true := by
  simp only [configWf, Bool.and_eq_true] at h ⊢
  obtain ⟨⟨⟨⟨hfront, -⟩, hextra⟩, hbias⟩, hchunk⟩ := h
  exact ⟨⟨⟨⟨hfront, hid⟩, hextra⟩, hbias⟩, hchunk⟩

theorem resetStep_keeps {s : State} (id : Nat) (h : BlockInvariant s) : BlockInvariant (resetStep id s) := by
  obtain ⟨hw, -⟩ := blockInvariant_iff.mp h
  unfold resetStep
  split
  · next hid => exact blockInvariant_resetWith (configWf_modelAtReset hw hid)
  · exact h

theorem txFailStep_keeps {s : State} (h : BlockInvariant s) : BlockInvariant (txFailStep s) := by
  unfold txFailStep
  split
  · next r hl hph =>
    have hp := phaseOk_of_blockInvariant h
    rw [hph] at hp
    obtain ⟨hr, hes⟩ := phaseOk_responding.mp hp
    exact transmit_keeps (liveOk_of_blockInvariant h hl) hr hes
  · exact h

/-- TRANSPORT_FAIL gives up whatever the agent was at. -/
theorem transportFailStep_keeps {s : State} (h : BlockInvariant s) : BlockInvariant (transportFailStep s) := by
  obtain ⟨hw, hdev, -, -, htx⟩ := blockInvariant_iff.mp h
  unfold transportFailStep
  split <;> exact blockInvariant_iff.mpr ⟨hw, hdev, fun _ => rfl, rfl, htx⟩

theorem rebindStep_keeps {s : State} (h : BlockInvariant s) : BlockInvariant (rebindStep s) := by
  obtain ⟨hw, hdev, -, -, htx⟩ := blockInvariant_iff.mp h
  unfold rebindStep
  split
  · exact blockInvariant_of_liveOk ⟨hw, hdev, rfl, htx⟩ rfl
  · exact h

/-- A chunk is pushed only where the agent waits in READ. -/
theorem chunkStep_keeps {s : State} (c : List Byte) (h : BlockInvariant s) (hph : s.link = .bound → s.phase = .reading) :
    BlockInvariant (chunkStep c s) := by
  unfold chunkStep
  split
  · next hc =>
    obtain ⟨hl, -⟩ := hc
    have hlive := liveOk_of_blockInvariant h hl
    have hp := phaseOk_of_blockInvariant h
    rw [hph hl] at hp
    exact blockInvariant_of_liveOk (s := push c s) hlive hp
  · exact h

theorem timeoutEvent_keeps {s : State} (h : BlockInvariant s) : BlockInvariant (timeoutEvent s) := by
  unfold timeoutEvent
  split <;> exact h

theorem phase_of_chunk_not_deferred {s : State} {c : List Byte} (h : defers (.chunk c) s = false) (hl : s.link = .bound) :
    s.phase = .reading := by
  simpa [defers, hl] using h

theorem eventStep_keeps {s : State} {e : Event} {rest : List Event} (h : BlockInvariant s) (hd : defers e s = false) :
    BlockInvariant (eventStep e { s with env := rest }) := by
  have hs : BlockInvariant { s with env := rest } := h
  cases e with
  | agent => exact agentTurn_keeps hs
  | chunk c => exact chunkStep_keeps c hs (phase_of_chunk_not_deferred (s := s) hd)
  | timeout => exact timeoutEvent_keeps hs
  | host w => exact hs
  | transportFail => exact transportFailStep_keeps hs
  | rebind => exact rebindStep_keeps hs
  | reset id => exact resetStep_keeps id hs
  | txFail => exact txFailStep_keeps hs

theorem internalStep_keeps {s : State} (h : BlockInvariant s) : BlockInvariant (internalStep s) := by
  rcases internalStep_cases s with he | ⟨e, rest, -, hd, he⟩ <;> rw [he]
  · exact agentTurn_keeps h
  · exact eventStep_keeps h hd

/-! ### Every step -/

/-- A host operation leaves the agent where it is. -/
theorem exec_decodeHost_keeps {s t : State} {w : BitVec 32} (h : BlockInvariant s) (ht : exec (decodeHost w) s = .next t) :
    BlockInvariant t := by
  obtain ⟨hw, hdev, hlink, hp, htx⟩ := blockInvariant_iff.mp h
  obtain ⟨t', ht', hsec⟩ := exec_decodeHostOp_section hdev.1 (w.extractLsb' 24 8) (w.extractLsb' 16 8) (w.extractLsb' 0 16)
  cases ht'.symm.trans ht
  have hdev' := deviceOk_of_hostSection hdev hsec
  obtain ⟨-, -, hframe⟩ := hsec
  rw [hframe] at hdev' ⊢
  exact blockInvariant_iff.mpr ⟨hw, hdev', hlink, hp, htx⟩

/-- Settles O40: by what the step runs (`step_cases`), the host's operation, the agent's instruction, or no instruction. -/
theorem stepKeepsInvariant : Obligations.StepKeepsInvariant := by
  intro s t h ht
  obtain ⟨-, ⟨c, u, i, hf, hd, he⟩ | ⟨-, rfl⟩⟩ := step_cases ht
  · rcases fetch_cases hf with ⟨w, rest, -, rfl, rfl⟩ | hf | ⟨rest, -, hf⟩
    · cases hd
      exact exec_decodeHost_keeps (s := { s with env := rest }) h he
    · exact exec_fetchAgent_keeps h hf hd he
    · exact exec_fetchAgent_keeps (s := { s with env := rest }) h hf hd he
  · exact internalStep_keeps h

end Sys2Proof.Machine
end

section
/-! What the block has put out is never read: two states that differ only in their outputs stay so through every operation and
are refused together (spec/10_state.md R27, spec/60_exceptions.md R219). -/

namespace Sys2Proof.Machine

/-! ### Every shared operation -/

section
variable {s s' : State}

theorem SameButOutputs.cfg_eq (h : SameButOutputs s s') : s'.cfg = s.cfg := by rw [h]
theorem SameButOutputs.atomicUnit_eq (h : SameButOutputs s s') : s'.cfg.atomicUnit = s.cfg.atomicUnit := by rw [h]
theorem SameButOutputs.env_eq (h : SameButOutputs s s') : s'.env = s.env := by rw [h]
theorem SameButOutputs.link_eq (h : SameButOutputs s s') : s'.link = s.link := by rw [h]
theorem SameButOutputs.buf_eq (h : SameButOutputs s s') : s'.buf = s.buf := by rw [h]
theorem SameButOutputs.phase_eq (h : SameButOutputs s s') : s'.phase = s.phase := by rw [h]
theorem SameButOutputs.model_eq (h : SameButOutputs s s') : s'.model = s.model := by rw [h]
theorem SameButOutputs.regs_eq (h : SameButOutputs s s') : s'.regs = s.regs := by rw [h]
theorem SameButOutputs.snap_eq (h : SameButOutputs s s') : s'.snap = s.snap := by rw [h]

theorem sameButOutputs_raise (h : SameButOutputs s s') (c : Condition) : SameButOutputs (raise c s) (raise c s') := by
  rw [h]; exact rfl

theorem sameButOutputs_writePlain (h : SameButOutputs s s') (o : Obj) (x : U16) :
    SameButOutputs (writePlain o x s) (writePlain o x s') := by
  rw [h]; exact rfl

theorem sameButOutputs_writeVane (h : SameButOutputs s s') (g : VaneGroup) (v : Vane) (val : U16) :
    SameButOutputs (writeVane g v val s) (writeVane g v val s') := by
  unfold writeVane
  rw [h.cfg_eq, h.model_eq]
  split
  · exact sameButOutputs_writePlain h _ _
  · exact sameButOutputs_raise h _

theorem sameButOutputs_writeOther (h : SameButOutputs s s') (id val : U16) :
    SameButOutputs (writeOther id val s) (writeOther id val s') := by
  unfold writeOther
  rw [h.cfg_eq]
  split
  · exact sameButOutputs_writePlain h _ _
  · exact sameButOutputs_raise h _

theorem sameButOutputs_writeObj (h : SameButOutputs s s') (id val : U16) :
    SameButOutputs (writeObj id val s) (writeObj id val s') := by
  unfold writeObj
  cases registryFind id with
  | none => exact sameButOutputs_writeOther h id val
  | some o =>
    cases o with
    | vane g v => exact sameButOutputs_writeVane h g v val
    | _ => exact sameButOutputs_writePlain h _ val

theorem sameButOutputs_writePairs (p : List Byte) (h : SameButOutputs s s') :
    SameButOutputs (writePairs p s) (writePairs p s') := by
  fun_induction writePairs p s generalizing s' with
  | case1 p0 p1 p2 p3 rest s ih => exact ih (sameButOutputs_writeObj h _ _)
  | case2 p s hp => rw [writePairs.eq_2 _ _ hp]; exact h

theorem sameButOutputs_appendEntry (h : SameButOutputs s s') (e : List Byte) :
    SameButOutputs (appendEntry e s) (appendEntry e s') := by
  rw [h]; exact rfl

theorem sameButOutputs_readObject (h : SameButOutputs s s') (id : U16) : SameButOutputs (readObject id s) (readObject id s') := by
  unfold readObject
  rw [h.cfg_eq, h.regs_eq]
  cases objFind s.cfg.extraObj id with
  | some o => exact sameButOutputs_appendEntry h _
  | none => exact sameButOutputs_appendEntry (sameButOutputs_raise h _) _

theorem sameButOutputs_readObjects (p : List Byte) (h : SameButOutputs s s') :
    SameButOutputs (readObjects p s) (readObjects p s') := by
  fun_induction readObjects p s generalizing s' with
  | case1 p0 p1 p2 p3 rest s ih => exact ih (sameButOutputs_readObject h _)
  | case2 p s hp => rw [readObjects.eq_2 _ _ hp]; exact h

theorem status_eq_of_sameButOutputs (h : SameButOutputs s s') (cls num : Byte) : status cls num s' = status cls num s := by
  rw [h]; exact rfl

theorem sameButOutputs_answerPoint (h : SameButOutputs s s') (cls num : Byte) :
    SameButOutputs (answerPoint cls num (status cls num s) s) (answerPoint cls num (status cls num s') s') := by
  rw [status_eq_of_sameButOutputs h]
  exact sameButOutputs_appendEntry h _

theorem sameButOutputs_readPoints (p : List Byte) (h : SameButOutputs s s') :
    SameButOutputs (readPoints p s) (readPoints p s') := by
  fun_induction readPoints p s generalizing s' with
  | case1 q0 q1 rest s ih => exact ih (sameButOutputs_answerPoint h _ _)
  | case2 p s hp => rw [readPoints.eq_2 _ _ hp]; exact h

theorem sameButOutputs_respondWith (h : SameButOutputs s s') (c : Byte) (a : Addr) (body : List Byte) :
    SameButOutputs (respondWith c a body s) (respondWith c a body s') := by
  rw [h]; exact rfl

theorem sameButOutputs_respondQuery (h : SameButOutputs s s') (a : Addr) :
    SameButOutputs (respondQuery a s) (respondQuery a s') := by
  rw [h]; exact rfl

theorem sameButOutputs_transmit (h : SameButOutputs s s') (r : List Byte) : SameButOutputs (transmit r s) (transmit r s') := by
  rw [h]; exact rfl

theorem sameButOutputs_setPhase (h : SameButOutputs s s') (ph : Phase) :
    SameButOutputs { s with phase := ph } { s' with phase := ph } := by
  rw [h]; exact rfl

theorem sameButOutputs_setEnv (h : SameButOutputs s s') (env : List Event) :
    SameButOutputs { s with env := env } { s' with env := env } := by
  rw [h]; exact rfl

theorem sameButOutputs_returnSnapshot (h : SameButOutputs s s') : SameButOutputs (returnSnapshot s) (returnSnapshot s') := by
  rw [h]; exact rfl

theorem sameButOutputs_reject (h : SameButOutputs s s') (op idx : Byte) (arg : U16) :
    SameButOutputs (reject op idx arg s) (reject op idx arg s') :=
  sameButOutputs_returnSnapshot (sameButOutputs_raise h _)

theorem sameButOutputs_acceptWrite (h : SameButOutputs s s') (o : Obj) (x : U16) (snap : Snapshot) :
    SameButOutputs (acceptWrite o x snap s) (acceptWrite o x snap s') := by
  rw [h]; exact rfl

/-! ### The instructions -/

/-- The outcomes are the same but for the outputs of the next state. -/
def SameOutcome : Result → Result → Prop
  | .next t, .next t' => SameButOutputs t t'
  | .fault r, .fault r' => r = r'
  | .refused r, .refused r' => r = r'
  | _, _ => False

theorem sameOutcome_guardLength {t t' : State} (h : SameButOutputs t t') (p : List Byte) :
    SameOutcome (guardLength p t) (guardLength p t') := by
  unfold guardLength
  split
  · exact h
  · exact rfl

theorem sameOutcome_execCmd0 (h : SameButOutputs s s') (a : Addr) (p : List Byte) :
    SameOutcome (execCmd0 a p s) (execCmd0 a p s') := by
  unfold execCmd0
  rw [h.cfg_eq]
  exact sameOutcome_guardLength (sameButOutputs_respondWith h _ _ _) p

theorem sameOutcome_execCmd1 (h : SameButOutputs s s') (a : Addr) (p : List Byte) :
    SameOutcome (execCmd1 a p s) (execCmd1 a p s') := by
  unfold execCmd1
  rw [h.cfg_eq]
  exact sameOutcome_guardLength (sameButOutputs_respondWith h _ _ _) p

theorem sameOutcome_execCmd2 (h : SameButOutputs s s') (a : Addr) (p : List Byte) :
    SameOutcome (execCmd2 a p s) (execCmd2 a p s') := by
  unfold execCmd2
  rw [h.atomicUnit_eq]
  refine sameOutcome_guardLength ?_ p
  cases s.cfg.atomicUnit with
  | pair => rw [h]; exact rfl
  | frame => exact sameButOutputs_respondWith (sameButOutputs_writePairs p h) _ _ _

theorem sameOutcome_execCmd3Obj (h : SameButOutputs s s') (a : Addr) (p : List Byte) :
    SameOutcome (execCmd3Obj a p s) (execCmd3Obj a p s') := by
  unfold execCmd3Obj
  rw [h.atomicUnit_eq]
  refine sameOutcome_guardLength ?_ p
  have hnew : SameButOutputs { s with entries := [] } { s' with entries := [] } := by rw [h]; exact rfl
  cases s.cfg.atomicUnit with
  | pair => rw [h]; exact rfl
  | frame => exact sameButOutputs_respondQuery (sameButOutputs_readObjects p hnew) a

theorem sameOutcome_execCmd3Cls (h : SameButOutputs s s') (a : Addr) (p : List Byte) :
    SameOutcome (execCmd3Cls a p s) (execCmd3Cls a p s') := by
  unfold execCmd3Cls
  rw [h.atomicUnit_eq]
  refine sameOutcome_guardLength ?_ p
  have hnew : SameButOutputs { s with entries := [] } { s' with entries := [] } := by rw [h]; exact rfl
  cases s.cfg.atomicUnit with
  | pair => rw [h]; exact rfl
  | frame => exact sameButOutputs_respondQuery (sameButOutputs_readPoints p hnew) a

theorem sameOutcome_decodeFrame (h : SameButOutputs s s') {f : List Byte} {i : Instr} (hd : decodeFrame f = .ok i) :
    SameOutcome (exec i s) (exec i s') := by
  obtain ⟨a, p, rfl | rfl | rfl | rfl | rfl⟩ := decodeFrame_cases hd
  · exact sameOutcome_execCmd0 h a p
  · exact sameOutcome_execCmd1 h a p
  · exact sameOutcome_execCmd2 h a p
  · exact sameOutcome_execCmd3Obj h a p
  · exact sameOutcome_execCmd3Cls h a p

theorem sameOutcome_decodeObject (h : SameButOutputs s s') (id val : U16) :
    SameOutcome (exec (decodeObject id val) s) (exec (decodeObject id val) s') := by
  rw [exec_decodeObject, exec_decodeObject]
  exact sameButOutputs_writeObj h id val

theorem sameOutcome_decodePoint (h : SameButOutputs s s') (cls num : Byte) :
    SameOutcome (exec (decodePoint cls num) s) (exec (decodePoint cls num) s') := by
  rw [exec_decodePoint, exec_decodePoint]
  exact sameButOutputs_answerPoint h cls num

theorem sameOutcome_execSetPower (h : SameButOutputs s s') (idx : Byte) (arg : U16) :
    SameOutcome (execSetPower idx arg s) (execSetPower idx arg s') := by
  unfold execSetPower
  rw [h.snap_eq]
  exact sameButOutputs_acceptWrite h _ _ _

theorem sameOutcome_execSetMode (h : SameButOutputs s s') (idx : Byte) (arg : U16) :
    SameOutcome (execSetMode idx arg s) (execSetMode idx arg s') := by
  unfold execSetMode
  rw [h.snap_eq]
  cases modeOf arg with
  | none => exact sameButOutputs_reject h _ _ _
  | some m => exact sameButOutputs_acceptWrite h _ _ _

theorem sameOutcome_execSetFan (h : SameButOutputs s s') (idx : Byte) (arg : U16) :
    SameOutcome (execSetFan idx arg s) (execSetFan idx arg s') := by
  unfold execSetFan
  rw [h.snap_eq]
  cases fanOf arg with
  | none => exact sameButOutputs_reject h _ _ _
  | some f => exact sameButOutputs_acceptWrite h _ _ _

theorem sameOutcome_execSetTemp (h : SameButOutputs s s') (idx : Byte) (arg : U16) :
    SameOutcome (execSetTemp idx arg s) (execSetTemp idx arg s') := by
  unfold execSetTemp
  rw [h.snap_eq]
  split
  · exact sameButOutputs_acceptWrite h _ _ _
  · exact sameButOutputs_reject h _ _ _

theorem sameOutcome_execSetRoomTemp (h : SameButOutputs s s') (idx : Byte) (arg : U16) :
    SameOutcome (execSetRoomTemp idx arg s) (execSetRoomTemp idx arg s') := by
  unfold execSetRoomTemp
  rw [h.snap_eq]
  split
  · exact sameButOutputs_acceptWrite h _ _ _
  · exact sameButOutputs_reject h _ _ _

theorem sameOutcome_execSetSwing (h : SameButOutputs s s') (idx : Byte) (arg : U16) :
    SameOutcome (execSetSwing idx arg s) (execSetSwing idx arg s') := by
  unfold execSetSwing
  rw [h.snap_eq, h.regs_eq]
  split
  · exact sameButOutputs_acceptWrite h _ _ _
  · rw [h]; exact rfl

theorem sameOutcome_execSetModel (h : SameButOutputs s s') (idx : Byte) (arg : U16) :
    SameOutcome (execSetModel idx arg s) (execSetModel idx arg s') := by
  unfold execSetModel
  cases modelOfId arg.toNat with
  | none => exact sameButOutputs_reject h _ _ _
  | some m => rw [h]; exact rfl

theorem sameOutcome_execGetCaps (h : SameButOutputs s s') (idx : Byte) (arg : U16) :
    SameOutcome (execGetCaps idx arg s) (execGetCaps idx arg s') := by
  rw [h]; exact rfl

theorem sameOutcome_execSetVvanePos (h : SameButOutputs s s') (idx : Byte) (arg : U16) :
    SameOutcome (execSetVvanePos idx arg s) (execSetVvanePos idx arg s') := by
  unfold execSetVvanePos
  rw [h.cfg_eq, h.model_eq, h.snap_eq]
  cases vaneArg s.cfg s.model .vertical idx with
  | none => exact sameButOutputs_reject h _ _ _
  | some v => exact sameButOutputs_acceptWrite h _ _ _

theorem sameOutcome_execSetVvaneSwing (h : SameButOutputs s s') (idx : Byte) (arg : U16) :
    SameOutcome (execSetVvaneSwing idx arg s) (execSetVvaneSwing idx arg s') := by
  unfold execSetVvaneSwing
  rw [h.cfg_eq, h.model_eq, h.snap_eq, h.regs_eq]
  cases vaneArg s.cfg s.model .vertical idx with
  | none => exact sameButOutputs_reject h _ _ _
  | some v => exact sameButOutputs_acceptWrite h _ _ _

theorem sameOutcome_execSetHvanePos (h : SameButOutputs s s') (idx : Byte) (arg : U16) :
    SameOutcome (execSetHvanePos idx arg s) (execSetHvanePos idx arg s') := by
  unfold execSetHvanePos
  rw [h.cfg_eq, h.model_eq, h.snap_eq]
  cases vaneArg s.cfg s.model .horizontal idx with
  | none => exact sameButOutputs_reject h _ _ _
  | some v => exact sameButOutputs_acceptWrite h _ _ _

theorem sameOutcome_execSetHvaneSwing (h : SameButOutputs s s') (idx : Byte) (arg : U16) :
    SameOutcome (execSetHvaneSwing idx arg s) (execSetHvaneSwing idx arg s') := by
  unfold execSetHvaneSwing
  rw [h.cfg_eq, h.model_eq, h.snap_eq, h.regs_eq]
  cases vaneArg s.cfg s.model .horizontal idx with
  | none => exact sameButOutputs_reject h _ _ _
  | some v => exact sameButOutputs_acceptWrite h _ _ _

theorem sameOutcome_decodeHostOp (h : SameButOutputs s s') (op idx : Byte) (arg : U16) :
    SameOutcome (exec (decodeHostOp op idx arg) s) (exec (decodeHostOp op idx arg) s') := by
  unfold decodeHostOp
  split
  · exact sameButOutputs_returnSnapshot h
  · exact sameOutcome_execSetPower h idx arg
  · exact sameOutcome_execSetMode h idx arg
  · exact sameOutcome_execSetTemp h idx arg
  · exact sameOutcome_execSetFan h idx arg
  · exact sameOutcome_execSetSwing h idx arg
  · exact sameOutcome_execSetRoomTemp h idx arg
  · exact sameOutcome_execSetModel h idx arg
  · exact sameOutcome_execGetCaps h idx arg
  · exact sameOutcome_execSetVvanePos h idx arg
  · exact sameOutcome_execSetVvaneSwing h idx arg
  · exact sameOutcome_execSetHvanePos h idx arg
  · exact sameOutcome_execSetHvaneSwing h idx arg
  · exact sameButOutputs_reject h op idx arg

/-- An instruction that some word decodes to reads no output. -/
theorem sameOutcome_exec_of_decode (h : SameButOutputs s s') {c : Code} {i : Instr} (hd : decode c = .ok i) :
    SameOutcome (exec i s) (exec i s') := by
  cases c with
  | frame f => exact sameOutcome_decodeFrame h hd
  | pair w => cases hd; exact sameOutcome_decodeObject h _ _
  | clsnum w => cases hd; exact sameOutcome_decodePoint h _ _
  | host w => cases hd; exact sameOutcome_decodeHostOp h _ _ _

/-! ### The agent and the environment -/

theorem sameButOutputs_scanStep (h : SameButOutputs s s') : SameButOutputs (scanStep s) (scanStep s') := by
  have hb := h.buf_eq
  cases hf : (scan s.buf).frame with
  | some f => rw [scanStep_found hf, scanStep_found (hb ▸ hf), h]; exact rfl
  | none => rw [scanStep_notFound hf, scanStep_notFound (hb ▸ hf), h]; exact rfl

theorem sameButOutputs_agentStep (h : SameButOutputs s s') : SameButOutputs (agentStep s) (agentStep s') := by
  unfold agentStep
  rw [h.phase_eq]
  split
  · exact h
  · exact sameButOutputs_scanStep h
  · exact h
  · exact sameButOutputs_respondWith h _ _ _
  · exact sameButOutputs_setPhase (sameButOutputs_readObject h _) _
  · exact sameButOutputs_respondQuery h _
  · exact sameButOutputs_respondQuery h _
  · exact sameButOutputs_transmit h _

theorem sameButOutputs_agentTurn (h : SameButOutputs s s') : SameButOutputs (agentTurn s) (agentTurn s') := by
  unfold agentTurn
  rw [h.link_eq]
  split
  · exact sameButOutputs_agentStep h
  · exact h

theorem sameButOutputs_chunkStep (h : SameButOutputs s s') (c : List Byte) : SameButOutputs (chunkStep c s) (chunkStep c s') := by
  unfold chunkStep
  rw [h.link_eq, h.cfg_eq]
  split
  · rw [h]; exact rfl
  · exact h

theorem sameButOutputs_timeoutEvent (h : SameButOutputs s s') : SameButOutputs (timeoutEvent s) (timeoutEvent s') := by
  unfold timeoutEvent
  rw [h.link_eq]
  split
  · rw [h]; exact rfl
  · exact h

theorem sameButOutputs_txFailStep (h : SameButOutputs s s') : SameButOutputs (txFailStep s) (txFailStep s') := by
  unfold txFailStep
  rw [h.link_eq, h.phase_eq]
  split
  · exact sameButOutputs_raise (sameButOutputs_transmit h _) _
  · exact h

theorem sameButOutputs_transportFailStep (h : SameButOutputs s s') :
    SameButOutputs (transportFailStep s) (transportFailStep s') := by
  unfold transportFailStep
  rw [h.phase_eq]
  split <;> (rw [h]; exact rfl)

theorem sameButOutputs_rebindStep (h : SameButOutputs s s') : SameButOutputs (rebindStep s) (rebindStep s') := by
  unfold rebindStep
  rw [h.link_eq]
  split
  · rw [h]; exact rfl
  · exact h

/-- RESET empties the outputs of both states. -/
theorem sameButOutputs_resetStep (h : SameButOutputs s s') (id : Nat) : SameButOutputs (resetStep id s) (resetStep id s') := by
  unfold resetStep
  rw [h.cfg_eq, h.env_eq]
  split
  · exact rfl
  · exact h

theorem sameButOutputs_eventStep (h : SameButOutputs s s') (e : Event) : SameButOutputs (eventStep e s) (eventStep e s') := by
  cases e with
  | agent => exact sameButOutputs_agentTurn h
  | chunk c => exact sameButOutputs_chunkStep h c
  | timeout => exact sameButOutputs_timeoutEvent h
  | host w => exact h
  | transportFail => exact sameButOutputs_transportFailStep h
  | rebind => exact sameButOutputs_rebindStep h
  | reset id => exact sameButOutputs_resetStep h id
  | txFail => exact sameButOutputs_txFailStep h

theorem SameButOutputs.defers_eq (h : SameButOutputs s s') (e : Event) : defers e s' = defers e s := by
  unfold defers
  rw [h.link_eq, h.phase_eq]

theorem sameButOutputs_internalStep (h : SameButOutputs s s') : SameButOutputs (internalStep s) (internalStep s') := by
  unfold internalStep
  rw [h.env_eq]
  split
  · exact sameButOutputs_agentTurn h
  · next e rest _ =>
    rw [h.defers_eq]
    split
    · exact sameButOutputs_agentTurn h
    · exact sameButOutputs_eventStep (sameButOutputs_setEnv h rest) e

/-! ### Every step -/

/-- The same word is fetched, and the states left are the same but for the outputs. -/
def SameFetch : Option (Code × State) → Option (Code × State) → Prop
  | some (c, u), some (c', u') => c = c' ∧ SameButOutputs u u'
  | none, none => True
  | _, _ => False

theorem sameFetch_fetchAgent (h : SameButOutputs s s') : SameFetch (fetchAgent s) (fetchAgent s') := by
  unfold fetchAgent
  rw [h.link_eq, h.phase_eq]
  split
  · split
    · exact ⟨rfl, h⟩
    · exact ⟨rfl, by rw [h]; exact rfl⟩
    · exact ⟨rfl, by rw [h]; exact rfl⟩
    · trivial
  · trivial

theorem sameFetch_fetch (h : SameButOutputs s s') : SameFetch (fetch s) (fetch s') := by
  unfold fetch
  rw [h.env_eq]
  split
  · exact sameFetch_fetchAgent h
  · next e rest _ =>
    rw [h.defers_eq]
    split
    · exact sameFetch_fetchAgent h
    · cases e with
      | agent => exact sameFetch_fetchAgent (sameButOutputs_setEnv h rest)
      | host w => exact ⟨rfl, sameButOutputs_setEnv h rest⟩
      | _ => trivial

theorem sameOutcome_step (h : SameButOutputs s s') : SameOutcome (step s) (step s') := by
  have hfetch := sameFetch_fetch h
  unfold step
  rw [h.cfg_eq]
  split
  case isFalse => exact rfl
  case isTrue =>
    cases hf : fetch s with
    | none =>
      cases hf' : fetch s' with
      | none => exact sameButOutputs_internalStep h
      | some x => rw [hf, hf'] at hfetch; exact hfetch.elim
    | some x =>
      cases hf' : fetch s' with
      | none => rw [hf, hf'] at hfetch; exact hfetch.elim
      | some x' =>
        rw [hf, hf'] at hfetch
        obtain ⟨c, u⟩ := x
        obtain ⟨c', u'⟩ := x'
        obtain ⟨rfl, hu⟩ := hfetch
        cases hd : decode c with
        | ok i => simpa only [hd] using sameOutcome_exec_of_decode hu hd
        | error e => simp only [hd, SameOutcome]
end

/-- Settles O51: the two outcomes are the same but for the outputs (`sameOutcome_step`), so they have the same constructor. -/
theorem outputsAreNeverRead : Obligations.OutputsAreNeverRead := by
  intro s s' h
  have hsame := sameOutcome_step h
  refine ⟨fun t ht => ?next, fun r hr => ?refused⟩
  case next =>
    rw [ht] at hsame
    cases hs' : step s' with
    | next t' => rw [hs'] at hsame; exact ⟨t', rfl, hsame⟩
    | fault r' => rw [hs'] at hsame; exact hsame.elim
    | refused r' => rw [hs'] at hsame; exact hsame.elim
  case refused =>
    rw [hr] at hsame
    cases hs' : step s' with
    | next t' => rw [hs'] at hsame; exact hsame.elim
    | fault r' => rw [hs'] at hsame; exact hsame.elim
    | refused r' => rw [hs'] at hsame; exact congrArg _ hsame.symm

end Sys2Proof.Machine
end

section
/-! The agent's turn where it runs no instruction, the reads of a CMD3, and a dispatch run section by section against the same
dispatch run at once (spec/20_memory.md R45, R49, spec/42_dispatch.md R121, R124, R126, R128). -/

namespace Sys2Proof.Machine

/-! ### The agent's turn without an instruction -/

theorem internalStep_of_agentTurn {s u : State} (h : AgentTurn s u) : internalStep s = agentStep u := by
  have hl := h.link_bound
  obtain ⟨-, ⟨he, rfl⟩ | ⟨rest, he, rfl⟩ | ⟨e, rest, he, hd, rfl⟩⟩ := h
  · simp only [internalStep, he, agentTurn, if_pos hl]
  · simp only [internalStep, he, defers_agent, eventStep, agentTurn, if_pos hl]; rfl
  · simp only [internalStep, he, hd, agentTurn, if_pos hl]; rfl

theorem step_of_agentTurn_none {s u : State} (hw : configWf s.cfg = true) (ht : AgentTurn s u) (hf : fetchAgent u = none) :
    step s = .next (agentStep u) := by
  simp [step, hw, (fetch_of_agentTurn ht).trans hf, internalStep_of_agentTurn ht]

/-- Object-mode reads are the agent's own steps: no instruction is fetched for them (notes/assumptions/6.md). -/
theorem fetchAgent_readingObjects {s : State} {a : Addr} {rest : List Byte} (hp : s.phase = .readingObjects a rest) :
    fetchAgent s = none := by
  simp [fetchAgent, hp]

theorem fetchAgent_writing_short {s : State} {a : Addr} {rest : List Byte} (hp : s.phase = .writing a rest)
    (h : rest.length < 4) : fetchAgent s = none := by
  match rest, h with
  | [], _ | [_], _ | [_, _], _ | [_, _, _], _ => simp [fetchAgent, hp]

theorem fetchAgent_readingPoints_short {s : State} {a : Addr} {rest : List Byte} (hp : s.phase = .readingPoints a rest)
    (h : rest.length < 2) : fetchAgent s = none := by
  match rest, h with
  | [], _ | [_], _ => simp [fetchAgent, hp]

theorem agentStep_writing {s : State} {a : Addr} {rest : List Byte} (hp : s.phase = .writing a rest) :
    agentStep s = respondWith 0x02 a [ackByte] s := by
  simp [agentStep, hp]

theorem agentStep_readingObjects_cons {s : State} {a : Addr} {p0 p1 p2 p3 : Byte} {rest : List Byte}
    (hp : s.phase = .readingObjects a (p0 :: p1 :: p2 :: p3 :: rest)) :
    agentStep s = { readObject (be16 p0 p1) s with phase := .readingObjects a rest } := by
  simp [agentStep, hp]

theorem agentStep_readingObjects_short {s : State} {a : Addr} {rest : List Byte} (hp : s.phase = .readingObjects a rest)
    (h : rest.length < 4) : agentStep s = respondQuery a s := by
  match rest, h with
  | [], _ | [_], _ | [_, _], _ | [_, _, _], _ => simp [agentStep, hp]

theorem agentStep_readingPoints {s : State} {a : Addr} {rest : List Byte} (hp : s.phase = .readingPoints a rest) :
    agentStep s = respondQuery a s := by
  simp [agentStep, hp]

/-! ### Reads -/

theorem readObjects_frame (p : List Byte) (s : State) :
    readObjects p s = { s with entries := (readObjects p s).entries, diag := (readObjects p s).diag } := by
  fun_induction readObjects p s with
  | case1 p0 p1 p2 p3 rest s ih =>
    rw [readObject_frame] at ih ⊢
    exact ih
  | case2 => rfl

theorem readPoints_frame (p : List Byte) (s : State) : readPoints p s = { s with entries := (readPoints p s).entries } := by
  fun_induction readPoints p s with
  | case1 q0 q1 rest s ih => exact ih
  | case2 => rfl

theorem notMem_registryIds_of_extraObj {c : Config} {id : U16} (hw : configWf c = true) (hid : id ∈ c.extraObj) :
    id ∉ registryIds := by
  simp only [configWf, extraObjOk, Bool.and_eq_true, List.all_eq_true] at hw
  obtain ⟨⟨⟨-, -, hextra⟩, -⟩, -⟩ := hw
  simpa using hextra id hid

/-- OBJ finds its registers by their ids, which EXTRA_OBJ does not share with the registry (spec/00_scope.md R7). -/
theorem objFind_eq_some {c : Config} (hw : configWf c = true) {id : U16} {o : Obj} :
    objFind c.extraObj id = some o ↔ Holds c o ∧ objId o = id := by
  constructor
  · intro h
    refine ⟨?_, objId_of_objFind h⟩
    unfold objFind at h
    split at h
    · next p hp => cases h; exact .inl (objId_of_registryFind hp).2
    · split at h
      · next hid => cases h; exact .inr ⟨id, hid, rfl⟩
      · cases h
  · rintro ⟨ho | ⟨e, he, rfl⟩, rfl⟩
    · simp only [objFind, registryFind_objId ho]
    · have hnone : registryFind e = none := registryFind_eq_none.mpr (notMem_registryIds_of_extraObj hw he)
      simp only [objFind, objId, hnone]
      exact if_pos he

theorem readObject_register {id : U16} {o : Obj} {s : State} (h : objFind s.cfg.extraObj id = some o) :
    readObject id s = { s with entries := s.entries ++ objectEntry id (bankRead s.regs o) } := by
  simp only [readObject, h]; rfl

theorem readObject_hole {id : U16} {s : State} (h : objFind s.cfg.extraObj id = none) :
    readObject id s = { s with entries := s.entries ++ objectEntry id 0, diag := s.diag ++ [.unknownObject id] } := by
  simp only [readObject, h]; rfl

/-- Settles O45: a point is `exec_decodePoint`, an object read `readObject_register` or `readObject_hole` by what OBJ finds, a
read spread over sections the agent's own step. -/
theorem readsHaveNoSideEffects : Obligations.ReadsHaveNoSideEffects := by
  refine ⟨?point, fun p s => ⟨readPoints_frame p s, readObjects_frame p s⟩, ?object, ?order, ?step⟩
  case point => exact fun w s => ⟨_, exec_decodePoint _ _ s, rfl⟩
  case object =>
    intro id s hw
    refine ⟨fun o ho hid => readObject_register ((objFind_eq_some hw).mpr ⟨ho, hid⟩), fun hhole => readObject_hole ?_⟩
    refine Option.eq_none_iff_forall_ne_some.mpr fun o hfind => ?_
    obtain ⟨ho, hid⟩ := (objFind_eq_some hw).mp hfind
    exact hhole o ho hid
  case order => exact fun p0 p1 p2 p3 rest s => ⟨rfl, rfl⟩
  case step =>
    intro a p0 p1 p2 p3 rest s u hw ht hp
    have hpu := ht.phase_eq.trans hp
    rw [step_of_agentTurn_none hw ht (fetchAgent_readingObjects hpu), agentStep_readingObjects_cons hpu]

/-! ### What the sections of a CMD2 or CMD3 do not read

The grain ATOMIC_UNIT and the agent's place are neither read nor written by a pair, an object read or a point; a pair does not
read the entries either. -/

/-- The state with another grain of sections, the agent at another place, and other entries in progress. -/
def withAgent (g : AtomicUnit) (ph : Phase) (es : List Byte) (s : State) : State :=
  { s with cfg := { s.cfg with atomicUnit := g }, phase := ph, entries := es }

section
variable (g : AtomicUnit) (ph : Phase)

theorem writePlain_withAgent (es : List Byte) (o : Obj) (x : U16) (s : State) :
    writePlain o x (withAgent g ph es s) = withAgent g ph es (writePlain o x s) := rfl

theorem writeVane_withAgent (es : List Byte) (vg : VaneGroup) (v : Vane) (val : U16) (s : State) :
    writeVane vg v val (withAgent g ph es s) = withAgent g ph es (writeVane vg v val s) := by
  rcases writeVane_cases vg v val s with ⟨hs, h⟩ | ⟨hs, h⟩ <;> rw [h]
  · exact if_pos hs
  · exact if_neg (Bool.eq_false_iff.mp hs)

theorem writeOther_withAgent (es : List Byte) (id val : U16) (s : State) :
    writeOther id val (withAgent g ph es s) = withAgent g ph es (writeOther id val s) := by
  rcases writeOther_cases id val s with ⟨hid, h⟩ | ⟨hid, h⟩ <;> rw [h]
  · exact if_pos hid
  · exact if_neg hid

theorem writeObj_withAgent (es : List Byte) (id val : U16) (s : State) :
    writeObj id val (withAgent g ph es s) = withAgent g ph es (writeObj id val s) := by
  unfold writeObj
  split
  · exact writeVane_withAgent g ph es _ _ val s
  · rfl
  · exact writeOther_withAgent g ph es id val s

theorem writePairs_withAgent (es : List Byte) (p : List Byte) (s : State) :
    writePairs p (withAgent g ph es s) = withAgent g ph es (writePairs p s) := by
  fun_induction writePairs p s with
  | case1 p0 p1 p2 p3 rest s ih => rw [writePairs, writeObj_withAgent, ih]
  | case2 p s hp => rw [writePairs.eq_2 _ _ hp]

theorem readObject_withAgent (id : U16) (s : State) :
    readObject id (withAgent g ph s.entries s) = withAgent g ph (readObject id s).entries (readObject id s) := by
  cases h : objFind s.cfg.extraObj id with
  | some o => rw [readObject_register h]; exact readObject_register (s := withAgent g ph s.entries s) h
  | none => rw [readObject_hole h]; exact readObject_hole (s := withAgent g ph s.entries s) h

theorem readObjects_withAgent (p : List Byte) (s : State) :
    readObjects p (withAgent g ph s.entries s) = withAgent g ph (readObjects p s).entries (readObjects p s) := by
  fun_induction readObjects p s with
  | case1 p0 p1 p2 p3 rest s ih => rw [readObjects, readObject_withAgent, ih]
  | case2 p s hp => rw [readObjects.eq_2 _ _ hp]

theorem answerPoint_withAgent (cls num : Byte) (s : State) :
    answerPoint cls num (status cls num (withAgent g ph s.entries s)) (withAgent g ph s.entries s) =
      withAgent g ph (answerPoint cls num (status cls num s) s).entries (answerPoint cls num (status cls num s) s) := rfl

theorem readPoints_withAgent (p : List Byte) (s : State) :
    readPoints p (withAgent g ph s.entries s) = withAgent g ph (readPoints p s).entries (readPoints p s) := by
  fun_induction readPoints p s with
  | case1 q0 q1 rest s ih => rw [readPoints, answerPoint_withAgent, ih]
  | case2 p s hp => rw [readPoints.eq_2 _ _ hp]
end

/-! ### A dispatch run section by section -/

theorem runSteps_succ {n : Nat} {s t : State} (h : step s = .next t) : runSteps (n + 1) s = runSteps n t := by
  rw [runSteps, h]

theorem runSteps_one {s t : State} (h : step s = .next t) : runSteps 1 s = some t := runSteps_succ h

/-- No section of anyone else can fall between the agent's: LINK is BOUND and no event is to come. -/
structure Uninterrupted (s : State) : Prop where
  wf : configWf s.cfg = true
  bound : s.link = .bound
  noEvent : s.env = []

theorem Uninterrupted.agentTurn {s : State} (h : Uninterrupted s) : AgentTurn s s := ⟨h.bound, .inl ⟨h.noEvent, rfl⟩⟩

theorem uninterrupted_withAgent {s : State} (g : AtomicUnit) (ph : Phase) (es : List Byte) (h : Uninterrupted s) :
    Uninterrupted (withAgent g ph es s) := ⟨h.wf, h.bound, h.noEvent⟩

theorem uninterrupted_noEntries {s : State} (h : Uninterrupted s) : Uninterrupted { s with entries := [] } :=
  ⟨h.wf, h.bound, h.noEvent⟩

theorem uninterrupted_writeObj {s : State} (id val : U16) (h : Uninterrupted s) : Uninterrupted (writeObj id val s) := by
  rw [writeObj_frame]
  exact ⟨h.wf, h.bound, h.noEvent⟩

theorem uninterrupted_readObject {s : State} (id : U16) (h : Uninterrupted s) : Uninterrupted (readObject id s) := by
  rw [readObject_frame]
  exact ⟨h.wf, h.bound, h.noEvent⟩

theorem uninterrupted_answerPoint {s : State} (cls num : Byte) (st : U16) (h : Uninterrupted s) :
    Uninterrupted (answerPoint cls num st s) := ⟨h.wf, h.bound, h.noEvent⟩

theorem length_lt_four {p : List Byte} (h : ∀ p0 p1 p2 p3 rest, p = p0 :: p1 :: p2 :: p3 :: rest → False) : p.length < 4 := by
  match p with
  | [] | [_] | [_, _] | [_, _, _] => simp
  | p0 :: p1 :: p2 :: p3 :: rest => exact (h p0 p1 p2 p3 rest rfl).elim

theorem length_lt_two {p : List Byte} (h : ∀ q0 q1 rest, p = q0 :: q1 :: rest → False) : p.length < 2 := by
  match p with
  | [] | [_] => simp
  | q0 :: q1 :: rest => exact (h q0 q1 rest rfl).elim

theorem length_cons4_div (p0 p1 p2 p3 : Byte) (rest : List Byte) :
    (p0 :: p1 :: p2 :: p3 :: rest).length / 4 + 1 = rest.length / 4 + 1 + 1 := by
  simp only [List.length_cons]
  omega

theorem length_cons2_div (q0 q1 : Byte) (rest : List Byte) :
    (q0 :: q1 :: rest).length / 2 + 1 = rest.length / 2 + 1 + 1 := by
  simp only [List.length_cons]
  omega

/-- The pairs of a CMD2 one step each, then the response. -/
theorem runSteps_writing (g : AtomicUnit) (a : Addr) (p : List Byte) {s : State} (h : Uninterrupted s) :
    runSteps (p.length / 4 + 1) (withAgent g (.writing a p) [] s) =
      some (respondWith 0x02 a [ackByte] (withAgent g (.writing a p) [] (writePairs p s))) := by
  fun_induction writePairs p s with
  | case1 p0 p1 p2 p3 rest s ih =>
    have hu := uninterrupted_withAgent g (.writing a (p0 :: p1 :: p2 :: p3 :: rest)) [] h
    have hstep : step (withAgent g (.writing a (p0 :: p1 :: p2 :: p3 :: rest)) [] s) =
        .next (withAgent g (.writing a rest) [] (writeObj (be16 p0 p1) (be16 p2 p3) s)) := by
      rw [step_of_agentTurn hu.wf hu.agentTurn (fetchAgent_writing h.bound rfl) rfl, decodePair_pairWord, exec_decodeObject]
      exact congrArg _ (writeObj_withAgent g (.writing a rest) [] _ _ s)
    rw [length_cons4_div, runSteps_succ hstep]
    exact ih (uninterrupted_writeObj _ _ h)
  | case2 p s hp =>
    have hu := uninterrupted_withAgent g (.writing a p) [] h
    have hlen := length_lt_four hp
    rw [Nat.div_eq_of_lt hlen]
    exact runSteps_one (step_of_agentTurn_none hu.wf hu.agentTurn (fetchAgent_writing_short rfl hlen))

/-- The reads of a CMD3 in object mode one step each, then the response. -/
theorem runSteps_readingObjects (g : AtomicUnit) (a : Addr) (p : List Byte) {s : State} (h : Uninterrupted s) :
    runSteps (p.length / 4 + 1) (withAgent g (.readingObjects a p) s.entries s) =
      some (respondQuery a (withAgent g (.readingObjects a p) (readObjects p s).entries (readObjects p s))) := by
  fun_induction readObjects p s with
  | case1 p0 p1 p2 p3 rest s ih =>
    have hu := uninterrupted_withAgent g (.readingObjects a (p0 :: p1 :: p2 :: p3 :: rest)) s.entries h
    have hstep : step (withAgent g (.readingObjects a (p0 :: p1 :: p2 :: p3 :: rest)) s.entries s) =
        .next (withAgent g (.readingObjects a rest) (readObject (be16 p0 p1) s).entries (readObject (be16 p0 p1) s)) := by
      rw [step_of_agentTurn_none hu.wf hu.agentTurn (fetchAgent_readingObjects rfl), agentStep_readingObjects_cons rfl,
        readObject_withAgent]
      rfl
    rw [length_cons4_div, runSteps_succ hstep]
    exact ih (uninterrupted_readObject _ h)
  | case2 p s hp =>
    have hu := uninterrupted_withAgent g (.readingObjects a p) s.entries h
    have hlen := length_lt_four hp
    rw [Nat.div_eq_of_lt hlen, ← agentStep_readingObjects_short rfl hlen]
    exact runSteps_one (step_of_agentTurn_none hu.wf hu.agentTurn (fetchAgent_readingObjects rfl))

/-- The points of a CMD3 in class/number mode one step each, then the response. -/
theorem runSteps_readingPoints (g : AtomicUnit) (a : Addr) (p : List Byte) {s : State} (h : Uninterrupted s) :
    runSteps (p.length / 2 + 1) (withAgent g (.readingPoints a p) s.entries s) =
      some (respondQuery a (withAgent g (.readingPoints a p) (readPoints p s).entries (readPoints p s))) := by
  fun_induction readPoints p s with
  | case1 q0 q1 rest s ih =>
    have hu := uninterrupted_withAgent g (.readingPoints a (q0 :: q1 :: rest)) s.entries h
    have hstep : step (withAgent g (.readingPoints a (q0 :: q1 :: rest)) s.entries s) =
        .next (withAgent g (.readingPoints a rest) (answerPoint q0 q1 (status q0 q1 s) s).entries
          (answerPoint q0 q1 (status q0 q1 s) s)) := by
      rw [step_of_agentTurn hu.wf hu.agentTurn (fetchAgent_readingPoints h.bound rfl) rfl, decodeClsnum_be16, exec_decodePoint]
      exact congrArg _ (answerPoint_withAgent g (.readingPoints a rest) q0 q1 s)
    rw [length_cons2_div, runSteps_succ hstep]
    exact ih (uninterrupted_answerPoint _ _ _ h)
  | case2 p s hp =>
    have hu := uninterrupted_withAgent g (.readingPoints a p) s.entries h
    have hlen := length_lt_two hp
    rw [Nat.div_eq_of_lt hlen, ← agentStep_readingPoints rfl]
    exact runSteps_one (step_of_agentTurn_none hu.wf hu.agentTurn (fetchAgent_readingPoints_short rfl hlen))

/-! ### Run at once or section by section -/

section
variable {s : State} (a : Addr) (p : List Byte)

theorem exec_cmd2_pair (h : s.cfg.atomicUnit = .pair) :
    exec (.cmd2 a p) s = guardLength p { s with phase := .writing a p, entries := [] } := by
  simp only [exec, execCmd2, h]

theorem exec_cmd2_frame (h : s.cfg.atomicUnit = .frame) :
    exec (.cmd2 a p) s = guardLength p (respondWith 0x02 a [ackByte] (writePairs p s)) := by
  simp only [exec, execCmd2, h]

theorem exec_cmd3Obj_pair (h : s.cfg.atomicUnit = .pair) :
    exec (.cmd3Obj a p) s = guardLength p { s with phase := .readingObjects a p, entries := [] } := by
  simp only [exec, execCmd3Obj, h]

theorem exec_cmd3Obj_frame (h : s.cfg.atomicUnit = .frame) :
    exec (.cmd3Obj a p) s = guardLength p (respondQuery a (readObjects p { s with entries := [] })) := by
  simp only [exec, execCmd3Obj, h]

theorem exec_cmd3Cls_pair (h : s.cfg.atomicUnit = .pair) :
    exec (.cmd3Cls a p) s = guardLength p { s with phase := .readingPoints a p, entries := [] } := by
  simp only [exec, execCmd3Cls, h]

theorem exec_cmd3Cls_frame (h : s.cfg.atomicUnit = .frame) :
    exec (.cmd3Cls a p) s = guardLength p (respondQuery a (readPoints p { s with entries := [] })) := by
  simp only [exec, execCmd3Cls, h]
end

/-- The state with ATOMIC_UNIT = FRAME. -/
def underFrame (s : State) : State := withAgent .frame s.phase s.entries s

/-- A command that answers at once under FRAME, and whose sections under PAIR come to that answer, ends in one state. -/
theorem pairRun_of_frameRun {i : Instr} {p : List Byte} {n : Nat} {s t x y : State}
    (hframe : exec i (underFrame s) = guardLength p x) (hpair : exec i s = guardLength p y)
    (hrun : runSteps n y = some { x with cfg := s.cfg }) (ht : exec i (underFrame s) = .next t) :
    ∃ u, exec i s = .next u ∧ runSteps n u = some { t with cfg := s.cfg } := by
  obtain ⟨hp, rfl⟩ := guardLength_eq_next.mp (hframe.symm.trans ht)
  exact ⟨y, hpair.trans (guardLength_of_le hp y), hrun⟩

/-- A response replaces the agent's place and the entries, so only the grain is left to put back. -/
theorem respondWith_withAgent {w : State} {c : Config} (hc : w.cfg = c) (cmd : Byte) (a : Addr) (body : List Byte)
    (ph ph' : Phase) (es es' : List Byte) :
    respondWith cmd a body (withAgent c.atomicUnit ph es w) =
      { respondWith cmd a body (withAgent .frame ph' es' w) with cfg := c } := by
  rw [← hc]; rfl

theorem respondQuery_withAgent {w : State} {c : Config} (hc : w.cfg = c) (a : Addr) (ph ph' : Phase) (es : List Byte) :
    respondQuery a (withAgent c.atomicUnit ph es w) = { respondQuery a (withAgent .frame ph' es w) with cfg := c } := by
  rw [← hc]; rfl

section
variable {s t : State} (a : Addr) (p : List Byte)

theorem cmd2_pairRun (hpair : s.cfg.atomicUnit = .pair) (hs : Uninterrupted s) (ht : exec (.cmd2 a p) (underFrame s) = .next t) :
    ∃ u, exec (.cmd2 a p) s = .next u ∧ runSteps (p.length / 4 + 1) u = some { t with cfg := s.cfg } := by
  have hcfg : (writePairs p s).cfg = s.cfg := by rw [writePairs_frame]
  refine pairRun_of_frameRun (exec_cmd2_frame a p rfl) (exec_cmd2_pair a p hpair) ?_ ht
  rw [underFrame, writePairs_withAgent, ← respondWith_withAgent hcfg 0x02 a [ackByte] (.writing a p) s.phase []]
  exact runSteps_writing s.cfg.atomicUnit a p hs

theorem cmd3Obj_pairRun (hpair : s.cfg.atomicUnit = .pair) (hs : Uninterrupted s)
    (ht : exec (.cmd3Obj a p) (underFrame s) = .next t) :
    ∃ u, exec (.cmd3Obj a p) s = .next u ∧ runSteps (p.length / 4 + 1) u = some { t with cfg := s.cfg } := by
  have hcfg : (readObjects p { s with entries := [] }).cfg = s.cfg := by rw [readObjects_frame]
  have hreads := readObjects_withAgent .frame s.phase p { s with entries := [] }
  refine pairRun_of_frameRun (exec_cmd3Obj_frame a p rfl) (exec_cmd3Obj_pair a p hpair) ?_ ht
  refine (runSteps_readingObjects s.cfg.atomicUnit a p (uninterrupted_noEntries hs)).trans (congrArg some ?_)
  rw [respondQuery_withAgent hcfg a _ s.phase, ← hreads]; rfl

theorem cmd3Cls_pairRun (hpair : s.cfg.atomicUnit = .pair) (hs : Uninterrupted s)
    (ht : exec (.cmd3Cls a p) (underFrame s) = .next t) :
    ∃ u, exec (.cmd3Cls a p) s = .next u ∧ runSteps (p.length / 2 + 1) u = some { t with cfg := s.cfg } := by
  have hcfg : (readPoints p { s with entries := [] }).cfg = s.cfg := by rw [readPoints_frame]
  have hreads := readPoints_withAgent .frame s.phase p { s with entries := [] }
  refine pairRun_of_frameRun (exec_cmd3Cls_frame a p rfl) (exec_cmd3Cls_pair a p hpair) ?_ ht
  refine (runSteps_readingPoints s.cfg.atomicUnit a p (uninterrupted_noEntries hs)).trans (congrArg some ?_)
  rw [respondQuery_withAgent hcfg a _ s.phase, ← hreads]; rfl
end

/-- Settles O9: each command's sections are run one by one (`runSteps_writing`, `runSteps_readingObjects`,
`runSteps_readingPoints`), and no section reads the grain or the agent's place. -/
theorem pairRunEqualsFrameRun : Obligations.PairRunEqualsFrameRun := by
  intro a p s t hw hpair hl he
  have hs : Uninterrupted s := ⟨hw, hl, he⟩
  exact ⟨cmd2_pairRun a p hpair hs, cmd3Obj_pairRun a p hpair hs, cmd3Cls_pairRun a p hpair hs⟩

end Sys2Proof.Machine
end

section
/-! The decoder and the encoder of the four formats: what each gives for a word put together from its fields, that they undo each
other, and that a verified frame is sealed by its own checksum (spec/30_encoding.md R56 to R80). -/

namespace Sys2Proof.Machine

/-! ### A word from its fields -/

/-- The fields of a pair word are its id and its value (spec/30_encoding.md R65). -/
theorem decodePair_append (id val : U16) : decodePair (id ++ val) = decodeObject id val := by
  rw [decodePair, BitVec.extractLsb'_append_eq_left, BitVec.extractLsb'_append_eq_right]

/-- The fields of a host operation word are `op`, `idx` and `arg` (spec/30_encoding.md R78). -/
theorem decodeHost_append (op idx : Byte) (arg : U16) : decodeHost ((op ++ idx) ++ arg) = decodeHostOp op idx arg := by
  have hop : ((op ++ idx) ++ arg : BitVec 32).extractLsb' 24 8 = op := by
    rw [BitVec.extractLsb'_append_eq_of_le (by decide)]
    exact BitVec.extractLsb'_append_eq_left
  have hidx : ((op ++ idx) ++ arg : BitVec 32).extractLsb' 16 8 = idx := by
    rw [BitVec.extractLsb'_append_eq_of_le (by decide)]
    exact BitVec.extractLsb'_append_eq_right
  rw [decodeHost, hop, hidx, BitVec.extractLsb'_append_eq_right]

theorem decode_pairOf (id val : U16) : decode (pairOf id val) = .ok (decodeObject id val) :=
  congrArg Except.ok (decodePair_append id val)

theorem decode_pointOf (cls num : Byte) : decode (pointOf cls num) = .ok (decodePoint cls num) :=
  congrArg Except.ok (decodeClsnum_be16 cls num)

theorem decode_hostOf (op idx : Byte) (arg : U16) : decode (hostOf op idx arg) = .ok (decodeHostOp op idx arg) :=
  congrArg Except.ok (decodeHost_append op idx arg)

/-- The bytes of a whole frame: header, payload, and the two bytes of a checksum (spec/30_encoding.md R79). -/
theorem frameBytes_eq (c : Byte) (a : Addr) (p : List Byte) :
    ∃ k : U16, frameBytes c a p = c :: a.a1 :: a.a2 :: a.a3 :: BitVec.ofNat 8 p.length :: (p ++ [hi8 k, lo8 k]) :=
  ⟨_, rfl⟩

/-- A whole frame is decoded by its command, if its payload is within LEN_MAX (spec/30_encoding.md R56, R75). -/
theorem decodeFrame_frameBytes {p : List Byte} (h : p.length < 256) (c : Byte) (a : Addr) :
    decodeFrame (frameBytes c a p) = if lenMax < p.length then .error .lengthTooLarge else decodeCommand c a p := by
  have hn : (BitVec.ofNat 8 p.length).toNat = p.length := (BitVec.toNat_ofNat _ _).trans (Nat.mod_eq_of_lt h)
  obtain ⟨k, hk⟩ := frameBytes_eq c a p
  rw [hk]
  by_cases hmax : lenMax < p.length
  · rw [if_pos hmax]
    exact if_pos (hn.symm ▸ hmax)
  · have hbody : (p ++ [hi8 k, lo8 k]).length = (BitVec.ofNat 8 p.length).toNat + cksLen := by rw [hn, List.length_append]; rfl
    rw [if_neg hmax, decodeFrame_of_length (hn.symm ▸ Nat.not_lt.mp hmax) hbody, hn, List.take_left]

/-! ### The catch-all rows -/

/-- A number of class 0x01 that is no fixed point has the row QRY.CAP. -/
theorem decodeCapability_outside {num : Byte} (h1 : num ≠ 0x01) (h : num ∉ capVaneNumbers) : decodeCapability num = .qryCap num := by
  unfold decodeCapability
  split
  case h_1 hk => exact absurd (eq_ofNat_of_toNat_eq hk) h1
  case h_14 => rfl
  all_goals
    next hk => exact absurd (eq_ofNat_of_toNat_eq hk ▸ by decide) h

/-- A class with no row of its own has the row QRY.NONE. -/
theorem decodePoint_outside {cls : Byte} (h : cls ∉ populatedClasses) (num : Byte) : decodePoint cls num = .qryNone cls num := by
  unfold decodePoint
  split
  case h_5 => rfl
  all_goals
    next hk => exact absurd (eq_ofNat_of_toNat_eq hk ▸ by decide) h

/-- An operation code of 0x0D or more has the row HOST.INVALID. -/
theorem decodeHostOp_outside {op : Byte} (h : 0x0D ≤ op.toNat) (idx : Byte) (arg : U16) :
    decodeHostOp op idx arg = .hostInvalid op idx arg := by
  unfold decodeHostOp
  split
  case h_14 => rfl
  all_goals omega

/-! ### Decoding an encoding -/

/-- A frame whose command gives the instruction back decodes to it. -/
theorem decode_frameBytes {p : List Byte} (h : lenOk p = true) {c : Byte} {a : Addr} {i : Instr} (hc : decodeCommand c a p = .ok i) :
    decode (.frame (frameBytes c a p)) = .ok i := by
  have hlen : p.length ≤ 50 := of_decide_eq_true h
  exact (decodeFrame_frameBytes (by omega) c a).trans ((if_neg (Nat.not_lt.mpr hlen)).trans hc)

/-- Settles O1: a frame is decoded by its command and payload, any other word by the row of its fixed field; a catch-all row is
reached because well-formedness keeps its field off the other rows. -/
theorem decodeEncodeRoundTrip : Obligations.DecodeEncodeRoundTrip := by
  intro i hwf
  cases i with
  | cmd0 a p =>
    obtain ⟨hlen, hidle⟩ := Bool.and_eq_true_iff.mp hwf
    exact decode_frameBytes hlen (if_neg (by simpa using hidle))
  | cmd1 a p => exact decode_frameBytes hwf rfl
  | cmd2 a p => exact decode_frameBytes hwf rfl
  | cmd3Obj a p =>
    obtain ⟨hlen, hobj⟩ := Bool.and_eq_true_iff.mp hwf
    exact decode_frameBytes hlen (if_pos hobj)
  | cmd3Cls a p =>
    obtain ⟨hlen, hcls⟩ := Bool.and_eq_true_iff.mp hwf
    exact decode_frameBytes hlen (if_neg (by simpa using hcls))
  | wrUnknown id val =>
    have hid : id ∉ registryIds := by simpa [Instr.wf] using hwf
    rw [encode, decode_pairOf, decodeObject_outside hid]
  | qryCap num =>
    obtain ⟨h1, hvane⟩ : num ≠ 0x01 ∧ num ∉ capVaneNumbers := by simpa [Instr.wf] using hwf
    rw [encode, decode_pointOf]
    exact congrArg Except.ok (decodeCapability_outside h1 hvane)
  | qryNone cls num =>
    have hcls : cls ∉ populatedClasses := by simpa [Instr.wf] using hwf
    rw [encode, decode_pointOf, decodePoint_outside hcls]
  | hostInvalid op idx arg =>
    have hop : 0x0D ≤ op.toNat := of_decide_eq_true hwf
    rw [encode, decode_hostOf, decodeHostOp_outside hop]
  | _ => simp only [encode, decode_pairOf, decode_pointOf, decode_hostOf]; rfl

/-! ### Encoding what a word decodes to -/

/-- The instruction is well formed and its encoding is the word. -/
def Encodes (i : Instr) (c : Code) : Prop := i.wf = true ∧ encode i = c

theorem encodes_decodeObject (id val : U16) : Encodes (decodeObject id val) (pairOf id val) := by
  by_cases h : id ∈ registryIds
  · obtain ⟨o, ho, rfl⟩ := List.mem_map.mp h
    cases o with
    | vane g v => cases g <;> fin_cases v <;> exact ⟨rfl, rfl⟩
    | extra id => exact absurd rfl (mem_registry.mp ho id)
    | _ => exact ⟨rfl, rfl⟩
  · rw [decodeObject_outside h]
    exact ⟨by simpa [Instr.wf] using h, rfl⟩

theorem encodes_decodeCapability (num : Byte) : Encodes (decodeCapability num) (pointOf 0x01 num) := by
  by_cases h1 : num = 0x01
  · subst h1; exact ⟨rfl, rfl⟩
  by_cases h : num ∈ capVaneNumbers
  · simp only [capVaneNumbers, List.mem_cons, List.not_mem_nil, or_false] at h
    rcases h with rfl | rfl | rfl | rfl | rfl | rfl | rfl | rfl | rfl | rfl | rfl | rfl <;> exact ⟨rfl, rfl⟩
  · rw [decodeCapability_outside h1 h]
    exact ⟨by simpa [Instr.wf, h] using h1, rfl⟩

theorem encodes_decodePoint (cls num : Byte) : Encodes (decodePoint cls num) (pointOf cls num) := by
  by_cases h : cls ∈ populatedClasses
  · simp only [populatedClasses, List.mem_cons, List.not_mem_nil, or_false] at h
    obtain rfl | rfl | rfl | rfl := h
    case inr.inl => exact encodes_decodeCapability num
    all_goals exact ⟨rfl, rfl⟩
  · rw [decodePoint_outside h]
    exact ⟨by simpa [Instr.wf] using h, rfl⟩

theorem encodes_decodeHostOp (op idx : Byte) (arg : U16) : Encodes (decodeHostOp op idx arg) (hostOf op idx arg) := by
  by_cases h : 0x0D ≤ op.toNat
  · rw [decodeHostOp_outside h]
    exact ⟨decide_eq_true h, rfl⟩
  · generalize hk : op.toNat = k at h
    obtain rfl := eq_ofNat_of_toNat_eq hk
    clear hk
    interval_cases k <;> exact ⟨rfl, rfl⟩

/-- The two parts of a word cut at bit `m`, put together again. -/
theorem append_extractLsb' {k m : Nat} (w : BitVec (k + m)) : w.extractLsb' m k ++ w.extractLsb' 0 m = w := by
  rw [BitVec.extractLsb'_append_extractLsb'_eq_extractLsb' (by omega), BitVec.extractLsb'_eq_self]

/-- Settles O2: each format's fields put together are the word, and the row chosen by the fields encodes them. -/
theorem everyWordIsOneInstruction : Obligations.EveryWordIsOneInstruction := by
  refine ⟨fun w => ?pair, fun w => ?clsnum, fun w => ?host⟩
  case pair =>
    have h := encodes_decodeObject (w.extractLsb' 16 16) (w.extractLsb' 0 16)
    rwa [pairOf, append_extractLsb' (k := 16) (m := 16) w] at h
  case clsnum =>
    have h := encodes_decodePoint (w.extractLsb' 8 8) (w.extractLsb' 0 8)
    rwa [pointOf, append_extractLsb' (k := 8) (m := 8) w] at h
  case host =>
    have h := encodes_decodeHostOp (w.extractLsb' 24 8) (w.extractLsb' 16 8) (w.extractLsb' 0 16)
    have htop : w.extractLsb' 24 8 ++ w.extractLsb' 16 8 = w.extractLsb' 16 16 :=
      BitVec.extractLsb'_append_extractLsb'_eq_extractLsb' (by decide)
    rwa [hostOf, htop, append_extractLsb' (k := 16) (m := 16) w] at h

/-! ### Verified frames -/

/-- A frame of its declared length that verifies is what precedes its checksum, sealed (spec/40_checksum.md R84, R89). -/
theorem eq_sealFrame_of_verify {f : List Byte} (hv : verify f = true) (hlen : f.length = 7 + (f.getD 4 0).toNat) :
    f = sealFrame (f.take (5 + (f.getD 4 0).toNat)) := by
  rw [verify_of_le hlen.ge, beq_iff_eq] at hv
  generalize (f.getD 4 0).toNat = n at *
  obtain ⟨x, y, hxy⟩ := List.length_eq_two.mp (show (f.drop (5 + n)).length = 2 by rw [List.length_drop]; omega)
  have hx : f.getD (5 + n) 0 = x := by
    have := congrArg (·.getD 0 0) hxy
    simpa using this
  have hy : f.getD (6 + n) 0 = y := by
    have := congrArg (·.getD 1 0) hxy
    simpa [show 5 + n + 1 = 6 + n by omega] using this
  rw [sealFrame, hv, hx, hy, hi8_be16, lo8_be16, ← hxy, List.take_append_drop]

/-- A verified frame is a whole frame of its command, address and payload (spec/30_encoding.md R56, R79). -/
theorem exists_frameBytes_of_verify {f : List Byte} (hv : verify f = true) (hlen : f.length = 7 + (f.getD 4 0).toNat) :
    ∃ c a p, p.length < 256 ∧ f = frameBytes c a p := by
  have hseal := eq_sealFrame_of_verify hv hlen
  match f, hlen, hseal with
  | c :: a1 :: a2 :: a3 :: n :: body, hlen, hseal =>
    have hp : (body.take n.toNat).length = n.toNat := by
      have : body.length + 5 = 7 + n.toNat := hlen
      rw [List.length_take]
      omega
    refine ⟨c, ⟨a1, a2, a3⟩, body.take n.toNat, hp.symm ▸ n.isLt, hseal.trans (congrArg sealFrame ?_)⟩
    have hcount : 5 + n.toNat = n.toNat + 1 + 1 + 1 + 1 + 1 := by omega
    show List.take (5 + n.toNat) (c :: a1 :: a2 :: a3 :: n :: body) = _
    rw [hcount, hp, BitVec.ofNat_toNat, BitVec.setWidth_eq]
    rfl

/-- The command a payload decodes to is encoded by that command byte and payload (spec/30_encoding.md R59, R66). -/
theorem encodes_decodeCommand {c : Byte} {a : Addr} {p : List Byte} {i : Instr} (hlen : lenOk p = true)
    (h : decodeCommand c a p = .ok i) : Encodes i (.frame (frameBytes c a p)) := by
  unfold decodeCommand at h
  split at h
  case h_1 hc =>
    obtain rfl := eq_ofNat_of_toNat_eq hc
    split at h <;> cases h
    next hidle => exact ⟨by simp [Instr.wf, hlen, hidle], rfl⟩
  case h_2 hc =>
    obtain rfl := eq_ofNat_of_toNat_eq hc
    cases h; exact ⟨hlen, rfl⟩
  case h_3 hc =>
    obtain rfl := eq_ofNat_of_toNat_eq hc
    cases h; exact ⟨hlen, rfl⟩
  case h_4 hc =>
    obtain rfl := eq_ofNat_of_toNat_eq hc
    split at h <;> cases h
    · next hobj => exact ⟨by simp [Instr.wf, hlen, hobj], rfl⟩
    · next hcls => exact ⟨by simp [Instr.wf, hlen, hcls], rfl⟩
  case h_5 => cases h

/-- Settles O3: a verified frame is the whole frame of its command, address and payload, which its command encodes again. -/
theorem verifiedFrameIsItsEncoding : Obligations.VerifiedFrameIsItsEncoding := by
  intro f i hv hlen hd
  obtain ⟨c, a, p, hp, rfl⟩ := exists_frameBytes_of_verify hv hlen
  have hcmd := (decodeFrame_frameBytes hp c a).symm.trans hd
  split at hcmd
  · cases hcmd
  · next hmax => exact encodes_decodeCommand (decide_eq_true (Nat.not_lt.mp hmax)) hcmd

end Sys2Proof.Machine
end

section
/-! The checksum: its equivalent forms, VERIFY by addition on the declared frame, and what the change of one byte does to it
(spec/40_checksum.md R82 to R91). -/

namespace Sys2Proof.Machine

/-! ### The forms of CKS -/

/-- The complement of the sum is its negative less 1 (spec/40_checksum.md R83). -/
theorem cks_eq_neg_sub (s : List Byte) : cks s = -BitVec.ofNat 16 (byteSum s) - 1 := by
  have hones : (0xFFFF : U16) = -1 := rfl
  rw [cks, xor_ones, hones]
  ring

theorem ofNat_byteSum_add_cks (s : List Byte) : BitVec.ofNat 16 (byteSum s) + cks s = 0xFFFF := by
  rw [cks, xor_ones, add_sub_cancel]

theorem cks_toNat (s : List Byte) : (cks s).toNat = 0xFFFF - byteSum s % 65536 := by
  have hsum : (byteSum s % 2 ^ 16 + (cks s).toNat) % 2 ^ 16 = 0xFFFF := congrArg BitVec.toNat (ofNat_byteSum_add_cks s)
  have hlt := (cks s).isLt
  omega

/-- ACC holds the sum of the bytes added so far, modulo 2^16 (spec/40_checksum.md R82). -/
theorem foldl_accAdd (s : List Byte) (acc : U16) : s.foldl accAdd acc = acc + BitVec.ofNat 16 (byteSum s) := by
  induction s generalizing acc with
  | nil => exact (add_zero acc).symm
  | cons b t ih =>
    rw [List.foldl_cons, ih, accAdd, byteSum, BitVec.ofNat_add, BitVec.ofNat_toNat, add_assoc]

theorem cksSerial_eq_cks (s : List Byte) : cksSerial s = cks s := by
  rw [cksSerial, foldl_accAdd, zero_add, cks]

theorem byteSum_perm {s t : List Byte} (h : s.Perm t) : byteSum s = byteSum t := by
  induction h with
  | nil => rfl
  | cons b _ ih => rw [byteSum, byteSum, ih]
  | swap a b u => simp only [byteSum]; omega
  | trans _ _ ih₁ ih₂ => exact ih₁.trans ih₂

theorem cks_append (s t : List Byte) : cks (s ++ t) = cks s + cks t + 1 := by
  rw [cks_eq_neg_sub, cks_eq_neg_sub, cks_eq_neg_sub, byteSum_append, BitVec.ofNat_add]
  ring

/-- Settles O57: every form follows from the byte sum, which the serial form accumulates, a permutation keeps and a concatenation
adds up. -/
theorem checksumForms : Obligations.ChecksumForms :=
  ⟨cksSerial_eq_cks,
    fun s => ⟨xor_ones _, cks_toNat s, cks_eq_neg_sub s, ofNat_byteSum_add_cks s⟩,
    fun _ _ h => by rw [cks, byteSum_perm h, cks],
    cks_append⟩

/-! ### VERIFY of a sealed frame, and by addition -/

/-- Settles O58: the byte at offset 4 makes the sealed frame its own declared frame. -/
theorem sealedFramesVerify : Obligations.SealedFramesVerify :=
  fun _ h5 hn => verify_sealFrame h5 hn

theorem cks_eq_iff_add (s : List Byte) (c : U16) : cks s = c ↔ BitVec.ofNat 16 (byteSum s) + c = 0xFFFF := by
  rw [← ofNat_byteSum_add_cks s, add_right_inj, eq_comm]

/-- VERIFY holds exactly when the covered bytes and the received checksum add up to 0xFFFF (spec/40_checksum.md R86). -/
theorem verify_iff_add {f : List Byte} (h : 7 + (f.getD 4 0).toNat ≤ f.length) :
    verify f = true ↔
      BitVec.ofNat 16 (byteSum (f.take (5 + (f.getD 4 0).toNat))) +
        be16 (f.getD (5 + (f.getD 4 0).toNat) 0) (f.getD (6 + (f.getD 4 0).toNat) 0) = 0xFFFF := by
  rw [verify_of_le h, beq_iff_eq, cks_eq_iff_add]

theorem getD_take_of_lt {f : List Byte} {i m : Nat} (h : i < m) : (f.take m).getD i 0 = f.getD i 0 := by
  rw [List.getD_eq_getElem?_getD, List.getElem?_take_of_lt h, List.getD_eq_getElem?_getD]

/-- VERIFY of a buffer that holds the declared frame is VERIFY of that frame alone (spec/40_checksum.md R85). -/
theorem verify_take_declared {f : List Byte} (h : 7 + (f.getD 4 0).toNat ≤ f.length) :
    verify (f.take (7 + (f.getD 4 0).toNat)) = verify f := by
  have hlenByte : (f.take (7 + (f.getD 4 0).toNat)).getD 4 0 = f.getD 4 0 := getD_take_of_lt (by omega)
  have hheld : 7 + ((f.take (7 + (f.getD 4 0).toNat)).getD 4 0).toNat ≤ (f.take (7 + (f.getD 4 0).toNat)).length := by
    rw [hlenByte, List.length_take_of_le h]
  rw [verify_of_le hheld, verify_of_le h, hlenByte, List.take_take, min_eq_left (by omega), getD_take_of_lt (by omega),
    getD_take_of_lt (by omega)]

/-- Settles O59: VERIFY reads the declared frame only, and compares two values whose sum with the covered bytes is the same. -/
theorem verifyByAddition : Obligations.VerifyByAddition :=
  fun _ h => ⟨verify_iff_add h, (verify_take_declared h).symm⟩

/-! ### The change of one byte -/

/-- The sum VERIFY compares with 0xFFFF modulo 2^16, for a declared length `n`: the covered bytes and the received checksum
(spec/40_checksum.md R86). -/
def frameSum (n : Nat) (f : List Byte) : Nat :=
  byteSum (f.take (5 + n)) + (be16 (f.getD (5 + n) 0) (f.getD (6 + n) 0)).toNat

theorem verify_iff_frameSum {f : List Byte} (h : 7 + (f.getD 4 0).toNat ≤ f.length) :
    verify f = true ↔ frameSum (f.getD 4 0).toNat f % 65536 = 0xFFFF := by
  rw [verify_iff_add h, ← BitVec.toNat_inj, BitVec.toNat_add, BitVec.toNat_ofNat, Nat.mod_add_mod]
  rfl

theorem getD_set_ne {f : List Byte} {i k : Nat} (b : Byte) (h : k ≠ i) : (f.set k b).getD i 0 = f.getD i 0 := by
  rw [List.getD_eq_getElem?_getD, List.getElem?_set_ne h, List.getD_eq_getElem?_getD]

theorem getD_set_self {f : List Byte} {k : Nat} (b : Byte) (h : k < f.length) : (f.set k b).getD k 0 = b := by
  rw [List.getD_eq_getElem?_getD, List.getElem?_set_self h, Option.getD_some]

/-- What a byte of the declared frame counts for in `frameSum`: the high byte of the checksum 256 times, any other byte once. -/
def byteWeight (n k : Nat) : Nat := if k = 5 + n then 256 else 1

/-- Replacing one byte of the declared frame changes the sum by the difference, weighted by the byte's place. -/
theorem frameSum_set {f : List Byte} {n k : Nat} (b : Byte) (hheld : 7 + n ≤ f.length) (hk : k < 7 + n) :
    frameSum n (f.set k b) + byteWeight n k * (f.getD k 0).toNat = frameSum n f + byteWeight n k * b.toNat := by
  have hcases : k < 5 + n ∨ k = 5 + n ∨ k = 6 + n := by omega
  simp only [frameSum, be16_toNat, byteWeight]
  rcases hcases with hcov | rfl | rfl
  case inl =>
    have hsum := byteSum_set (f := f.take (5 + n)) b (k := k) (by rw [List.length_take]; omega)
    rw [getD_take_of_lt hcov] at hsum
    rw [List.take_set, getD_set_ne b (by omega), getD_set_ne b (by omega), if_neg (by omega)]
    omega
  case inr.inl =>
    rw [List.take_set_of_le le_rfl, getD_set_self b (by omega), getD_set_ne b (by omega), if_pos rfl]
    omega
  case inr.inr =>
    rw [List.take_set_of_le (by omega), getD_set_ne b (by omega), getD_set_self b (by omega), if_neg (by omega)]
    omega

/-- The place of a byte does not hide its change: weighted bytes that agree modulo 2^16 are the same byte. -/
theorem eq_of_byteWeight_mul_modEq {n k : Nat} {a b : Byte}
    (h : byteWeight n k * a.toNat ≡ byteWeight n k * b.toNat [MOD 65536]) : a = b := by
  have ha := a.isLt
  have hb := b.isLt
  apply BitVec.eq_of_toNat_eq
  unfold byteWeight Nat.ModEq at h
  split at h <;> omega

/-- Settles O60: the length byte stays, so both frames are judged by the sum over the same places, and a sum that stays 0xFFFF modulo
2^16 leaves the byte unchanged. -/
theorem singleByteCorruptionCaught : Obligations.SingleByteCorruptionCaught := by
  intro f k b hv hk hk4 hne
  have hheld := le_of_verify hv
  have hlenByte : (f.set k b).getD 4 0 = f.getD 4 0 := getD_set_ne b hk4
  refine Bool.eq_false_iff.mpr fun hv' => hne (eq_of_byteWeight_mul_modEq (n := (f.getD 4 0).toNat) (k := k) ?_)
  have hsum := (verify_iff_frameSum hheld).mp hv
  have hsum' := (verify_iff_frameSum (le_of_verify hv')).mp hv'
  rw [hlenByte] at hsum'
  have hsame : frameSum (f.getD 4 0).toNat (f.set k b) ≡ frameSum (f.getD 4 0).toNat f [MOD 65536] := hsum'.trans hsum.symm
  exact Nat.ModEq.add_left_cancel hsame (congrArg (· % 65536) (frameSum_set b hheld hk))

end Sys2Proof.Machine
end

section
/-! SCAN on the whole buffer: what the loop does at each offset, the three things a buffer can hold, and for each of them the whole
result of a scan (spec/41_frame_sync.md R94 to R112). -/

namespace Sys2Proof.Machine

/-! ### Candidates -/

theorem candLen_drop (l : List Byte) (i : Nat) : candLen (l.drop i) 0 = candLen l i := by
  simp only [candLen, List.getD_eq_getElem?_getD, List.getElem?_drop, Nat.zero_add]

/-- The first seven bytes of a candidate are bytes of the buffer. -/
theorem candidate_getD (l : List Byte) (i : Nat) {k : Nat} (hk : k < 7) : (candidate l i).getD k 0 = l.getD (i + k) 0 := by
  rw [candidate, getD_take_of_lt (by omega), List.getD_eq_getElem?_getD, List.getElem?_drop, List.getD_eq_getElem?_getD]

theorem candidate_length {l : List Byte} {i : Nat} (h : Acceptable l i) : (candidate l i).length = 7 + candLen l i := by
  obtain ⟨-, -, -, havail, -, -⟩ := h
  rw [candidate, List.length_take, List.length_drop]
  omega

theorem candidate_eq_self {f : List Byte} (h : f.length = 7 + candLen f 0) : candidate f 0 = f := by
  rw [candidate, ← h, List.drop_zero, List.take_length]

/-- A buffer is what precedes a candidate, the candidate, and what follows it. -/
theorem take_candidate_drop (l : List Byte) (i : Nat) : l.take i ++ candidate l i ++ l.drop (i + 7 + candLen l i) = l := by
  rw [candidate, List.append_assoc, Nat.add_assoc, ← List.drop_drop, List.take_append_drop, List.take_append_drop]

/-- A candidate that passes the tests is not incomplete. -/
theorem not_frontPartial_of_acceptable {l : List Byte} (h : Acceptable l 0) : ¬FrontPartial l := by
  obtain ⟨-, -, -, havail, -, -⟩ := h
  rintro ⟨-, -, -, hshort⟩
  omega

theorem candLen_append {f : List Byte} (h : 7 ≤ f.length) (post : List Byte) : candLen (f ++ post) 0 = candLen f 0 := by
  rw [candLen, List.getD_append _ _ _ _ (by omega), candLen]

/-- The bytes after a candidate make no difference to its tests. -/
theorem acceptable_append {f : List Byte} (h : Acceptable f 0) (post : List Byte) : Acceptable (f ++ post) 0 := by
  obtain ⟨h7, hcmd, hmax, havail, hidle, hv⟩ := h
  have hlen := candLen_append (by omega : 7 ≤ f.length) post
  have hbyte : ∀ k < 5, (f ++ post).getD (0 + k) 0 = f.getD (0 + k) 0 := fun k hk => List.getD_append _ _ _ _ (by omega)
  have hcand : candidate (f ++ post) 0 = candidate f 0 := by
    rw [candidate, hlen, List.drop_zero, List.take_append_of_le_length (by omega), candidate, List.drop_zero]
  have hheld : f.length ≤ (f ++ post).length := by rw [List.length_append]; omega
  refine ⟨by omega, ?_, by rwa [hlen], by omega, fun hz => hidle fun k hk => (hbyte k hk).symm.trans (hz k hk), by rwa [hcand]⟩
  rw [List.getD_append _ _ _ _ (by omega)]
  exact hcmd

/-! ### The loop at one offset -/

/-- Fewer than seven bytes hold no candidate (spec/41_frame_sync.md R95). -/
theorem scanFrom_short (i : Nat) {l : List Byte} (h : l.length < 7) : scanFrom i l = (.exhausted, []) := by
  cases l with
  | nil => rfl
  | cons b t => rw [scanFrom]; exact if_pos h

/-- With seven bytes or more the candidate's tests are run. -/
theorem not_lt_minFrame {l : List Byte} (h : 7 ≤ l.length) : ¬l.length < minFrame := Nat.not_lt.mpr h

theorem scanFrom_of_acceptable (i : Nat) {l : List Byte} (h : Acceptable l 0) :
    scanFrom i l = (.accepted (candidate l 0) (l.drop (7 + candLen l 0)), []) := by
  have h7 : 7 ≤ l.length := (Nat.zero_add 7).symm.trans_le h.1
  cases l with
  | nil => cases h7
  | cons b t => rw [scanFrom, if_neg (not_lt_minFrame h7), (judge_eq_accept i _ _ _ h7).mpr ⟨h, rfl, rfl⟩]

theorem scanFrom_of_frontPartial {l : List Byte} (h : FrontPartial l) :
    scanFrom 0 l = (.stalled, [.partialFrame (7 + candLen l 0) l.length]) := by
  have h7 : 7 ≤ l.length := h.1
  cases l with
  | nil => cases h7
  | cons b t => rw [scanFrom, if_neg (not_lt_minFrame h7), (judge_eq_stall 0 _ _ h7).mpr ⟨rfl, h, rfl⟩]

/-- Past a candidate that is neither accepted nor the end of the scan, the loop goes on at the next offset. -/
theorem scanFrom_of_rejected {i : Nat} {b : Byte} {t : List Byte} (hacc : ¬Acceptable (b :: t) 0)
    (hpart : i = 0 → ¬FrontPartial (b :: t)) : (scanFrom i (b :: t)).1 = (scanFrom (i + 1) t).1 := by
  by_cases h7 : 7 ≤ (b :: t).length
  · rw [scanFrom, if_neg (not_lt_minFrame h7)]
    cases hj : judge i (b :: t) with
    | accept f rest => exact absurd ((judge_eq_accept i _ _ _ h7).mp hj).1 hacc
    | stall c =>
      obtain ⟨hi, hp, -⟩ := (judge_eq_stall i _ _ h7).mp hj
      exact absurd hp (hpart hi)
    | reject c => rfl
  · have hshort : t.length < 7 := by rw [List.length_cons] at h7; omega
    rw [scanFrom_short i (Nat.not_le.mp h7), scanFrom_short (i + 1) hshort]

/-! ### The loop to its end -/

/-- The loop ends at the lowest candidate that passes the tests (spec/41_frame_sync.md R101). -/
theorem scanFrom_of_lowest {i k : Nat} {l : List Byte} (hk : Acceptable l k) (hlow : ∀ j < k, ¬Acceptable l j)
    (hpart : i = 0 → ¬FrontPartial l) :
    (scanFrom i l).1 = .accepted (candidate l k) (l.drop (k + 7 + candLen l k)) := by
  induction k generalizing i l with
  | zero => rw [scanFrom_of_acceptable i hk, Nat.zero_add]
  | succ k ih =>
    cases l with
    | nil => exact absurd hk.1 (Nat.not_succ_le_zero _)
    | cons b t =>
      have htail : (scanFrom (i + 1) t).1 = .accepted (candidate t k) (t.drop (k + 7 + candLen t k)) :=
        ih ((acceptable_cons b t k).mp hk)
          (fun j hj => (acceptable_cons b t j).not.mp (hlow (j + 1) (Nat.succ_lt_succ hj))) (nomatch ·)
      have hnext : k + 1 + 7 + candLen (b :: t) (k + 1) = (k + 7 + candLen t k) + 1 := by
        have : candLen (b :: t) (k + 1) = candLen t k := rfl
        omega
      rw [scanFrom_of_rejected (hlow 0 k.succ_pos) hpart, htail, hnext, List.drop_succ_cons]
      rfl

theorem scanFrom_of_noneAcceptable {i : Nat} {l : List Byte} (hnone : ∀ k, ¬Acceptable l k)
    (hpart : i = 0 → ¬FrontPartial l) : (scanFrom i l).1 = .exhausted := by
  induction l generalizing i with
  | nil => rfl
  | cons b t ih =>
    rw [scanFrom_of_rejected (hnone 0) hpart]
    exact ih (fun k => (acceptable_cons b t k).not.mp (hnone (k + 1))) (nomatch ·)

/-! ### What a buffer holds, and the scan of it -/

/-- The first frame of the buffer lies at an offset: the lowest candidate that passes the tests, with no partial candidate in front
(spec/41_frame_sync.md R99, R101). -/
structure FirstFrameAt (buf : List Byte) (i : Nat) : Prop where
  acceptable : Acceptable buf i
  lowest : ∀ j < i, ¬Acceptable buf j
  notPartial : ¬FrontPartial buf

/-- The buffer holds no frame and no partial candidate in front. -/
structure Frameless (buf : List Byte) : Prop where
  noneAcceptable : ∀ i, ¬Acceptable buf i
  notPartial : ¬FrontPartial buf

theorem frontPartial_or_firstFrameAt_or_frameless (buf : List Byte) :
    FrontPartial buf ∨ (∃ i, FirstFrameAt buf i) ∨ Frameless buf := by
  classical
  by_cases hpart : FrontPartial buf
  · exact .inl hpart
  by_cases hsome : ∃ i, Acceptable buf i
  · exact .inr (.inl ⟨Nat.find hsome, Nat.find_spec hsome, fun _ => Nat.find_min hsome, hpart⟩)
  · exact .inr (.inr ⟨not_exists.mp hsome, hpart⟩)

theorem scan_of_frontPartial {buf : List Byte} (h : FrontPartial buf) :
    scan buf = { outcome := .partialFront, frame := none, buf := buf, conds := [.partialFrame (7 + candLen buf 0) buf.length] } := by
  rw [scan, scanFrom_of_frontPartial h]

/-- The scan of a buffer with a first frame; the conditions are those of the candidates before it. -/
theorem scan_of_firstFrameAt {buf : List Byte} {i : Nat} (h : FirstFrameAt buf i) :
    scan buf =
      { outcome := .found
        frame := some (candidate buf i)
        buf := buf.drop (i + 7 + candLen buf i)
        conds := (scanFrom 0 buf).2 } := by
  have hend : scanFrom 0 buf = (.accepted (candidate buf i) (buf.drop (i + 7 + candLen buf i)), (scanFrom 0 buf).2) :=
    Prod.ext (scanFrom_of_lowest h.acceptable h.lowest fun _ => h.notPartial) rfl
  rw [scan, hend]

/-- A frame at the very front is found with no condition raised. -/
theorem scan_of_acceptable {buf : List Byte} (h : Acceptable buf 0) :
    scan buf = { outcome := .found, frame := some (candidate buf 0), buf := buf.drop (7 + candLen buf 0), conds := [] } := by
  rw [scan, scanFrom_of_acceptable 0 h]

theorem scan_of_frameless {buf : List Byte} (h : Frameless buf) :
    (scan buf).outcome = .noFrame ∧ (scan buf).frame = none ∧
      (scan buf).buf = if 256 < buf.length then buf.drop 128 else buf := by
  have hend : scanFrom 0 buf = (.exhausted, (scanFrom 0 buf).2) :=
    Prod.ext (scanFrom_of_noneAcceptable h.noneAcceptable fun _ => h.notPartial) rfl
  rw [scan, hend]
  by_cases hover : 256 < buf.length
  · simp [bufCap, bufDrop, hover]
  · simp [bufCap, hover]

/-- A frame returned is the candidate at the first frame's offset, and the buffer left is what follows it. -/
theorem firstFrameAt_of_scan {buf f : List Byte} (h : (scan buf).frame = some f) :
    ∃ i, FirstFrameAt buf i ∧ f = candidate buf i ∧ (scan buf).buf = buf.drop (i + 7 + candLen buf i) := by
  rcases frontPartial_or_firstFrameAt_or_frameless buf with hp | ⟨i, hi⟩ | hn
  · rw [scan_of_frontPartial hp] at h; cases h
  · rw [scan_of_firstFrameAt hi] at h ⊢
    exact ⟨i, hi, (Option.some.inj h).symm, rfl⟩
  · obtain ⟨-, hnone, -⟩ := scan_of_frameless hn
    rw [hnone] at h; cases h

/-! ### What a scan returns and what it leaves -/

/-- Settles O53: a frame comes only from a first frame (`firstFrameAt_of_scan`), whose scan is `scan_of_firstFrameAt`. -/
theorem scanAcceptsExactly : Obligations.ScanAcceptsExactly := by
  intro buf f rest
  constructor
  · rintro ⟨hf, rfl⟩
    obtain ⟨i, hi, hcand, hrest⟩ := firstFrameAt_of_scan hf
    exact ⟨i, hi.acceptable, hi.lowest, hi.notPartial, hcand, hrest⟩
  · rintro ⟨i, hacc, hlow, hpart, rfl, rfl⟩
    rw [scan_of_firstFrameAt ⟨hacc, hlow, hpart⟩]
    exact ⟨rfl, rfl⟩

/-- Settles O55: the scans of the two frameless buffers, and that a first frame or a frameless buffer never ends PARTIAL. -/
theorem scanWithoutFrame : Obligations.ScanWithoutFrame := by
  intro buf
  refine ⟨fun hpart => ?partialFront, fun hout => ?onlyPartial, fun hpart hnone => scan_of_frameless ⟨hnone, hpart⟩⟩
  case partialFront =>
    rw [scan_of_frontPartial hpart]
    exact ⟨rfl, rfl, rfl, rfl⟩
  case onlyPartial =>
    rcases frontPartial_or_firstFrameAt_or_frameless buf with hp | ⟨i, hi⟩ | hn
    · exact hp
    · rw [scan_of_firstFrameAt hi] at hout
      cases hout
    · obtain ⟨hout', -, -⟩ := scan_of_frameless hn
      cases hout.symm.trans hout'

/-- A scan only drops bytes from the front (spec/41_frame_sync.md R109). -/
theorem exists_append_scan_buf (buf : List Byte) : ∃ dropped, buf = dropped ++ (scan buf).buf := by
  rcases frontPartial_or_firstFrameAt_or_frameless buf with hp | ⟨i, hi⟩ | hn
  · exact ⟨[], by rw [scan_of_frontPartial hp]; rfl⟩
  · exact ⟨buf.take i ++ candidate buf i, by rw [scan_of_firstFrameAt hi, take_candidate_drop]⟩
  · obtain ⟨-, -, hbuf⟩ := scan_of_frameless hn
    rw [hbuf]
    split
    · exact ⟨buf.take 128, (List.take_append_drop 128 buf).symm⟩
    · exact ⟨[], rfl⟩

/-- Settles O54: the frame returned is a candidate that passed the tests, whose first five bytes are the buffer's own. -/
theorem scanNeverMisdelivers : Obligations.ScanNeverMisdelivers := by
  intro buf f
  refine ⟨fun hf => ?_, exists_append_scan_buf buf, by decide⟩
  obtain ⟨i, hi, rfl, hrest⟩ := firstFrameAt_of_scan hf
  have hlen := candidate_length hi.acceptable
  obtain ⟨-, hcmd, hmax, -, hidle, hv⟩ := hi.acceptable
  refine ⟨hv, by omega, ?_, fun hz => hidle fun k hk => ?_, buf.take i, by rw [hrest, take_candidate_drop]⟩
  · rwa [candidate_getD buf i (by omega)]
  · rw [← candidate_getD buf i (by omega)]
    exact hz k hk

/-- A scan that finds no frame leaves at most 256 bytes, or 128 fewer than it had (spec/41_frame_sync.md R111). -/
theorem scan_buf_length_of_noFrame {buf : List Byte} (h : (scan buf).outcome = .noFrame) :
    (scan buf).buf.length ≤ max 256 (buf.length - 128) := by
  rcases frontPartial_or_firstFrameAt_or_frameless buf with hp | ⟨i, hi⟩ | hn
  · rw [scan_of_frontPartial hp] at h; cases h
  · rw [scan_of_firstFrameAt hi] at h; cases h
  · obtain ⟨-, -, hbuf⟩ := scan_of_frameless hn
    rw [hbuf]
    split
    · rw [List.length_drop]; omega
    · omega

/-- A partial candidate at the front is all the buffer holds of a frame of at most 57 bytes. -/
theorem FrontPartial.length_lt {buf : List Byte} (h : FrontPartial buf) : buf.length < 57 := by
  obtain ⟨-, -, hmax, hshort⟩ := h
  omega

/-- Settles O56: the three bounds, each from the scan of what the buffer held; the last clause is the first bound at 384 bytes. -/
theorem scanMemoryBound : Obligations.ScanMemoryBound := by
  refine ⟨fun buf => ?_, fun buf c hbuf hc hout => ?_⟩
  · rcases frontPartial_or_firstFrameAt_or_frameless buf with hp | ⟨i, hi⟩ | hn
    · rw [scan_of_frontPartial hp]
      exact hp.length_lt
    · rw [scan_of_firstFrameAt hi]
      have hheld := hi.acceptable.1
      show (buf.drop (i + 7 + candLen buf i)).length + 7 ≤ buf.length
      rw [List.length_drop]
      omega
    · obtain ⟨hout, -, -⟩ := scan_of_frameless hn
      rw [hout]
      exact scan_buf_length_of_noFrame hout
  · have hbound := scan_buf_length_of_noFrame hout
    rw [List.length_append] at hbound
    omega

/-! ### Resynchronization -/

/-- A frame behind bytes in which no candidate is accepted is the first frame of the buffer (spec/41_frame_sync.md R108). -/
theorem firstFrameAt_append {pre l : List Byte} (hl : Acceptable l 0) (hpre : ∀ i < pre.length, ¬Acceptable (pre ++ l) i)
    (hpart : pre ≠ [] → ¬FrontPartial (pre ++ l)) : FirstFrameAt (pre ++ l) pre.length where
  acceptable := by rwa [acceptable_drop, List.drop_left]
  lowest := hpre
  notPartial := by
    cases pre with
    | nil => exact not_frontPartial_of_acceptable hl
    | cons b t => exact hpart (List.cons_ne_nil b t)

/-- Settles O52: the frame is the first frame behind the noise, as long as its length byte says, so what follows it is left. -/
theorem resynchronization : Obligations.Resynchronization := by
  intro pre f post hf hlen hpre hpart
  rw [List.append_assoc] at hpre hpart ⊢
  have h7 : 7 ≤ f.length := by omega
  have hcandLen : candLen (pre ++ (f ++ post)) pre.length = candLen f 0 := by
    rw [← candLen_drop, List.drop_left, candLen_append h7]
  have hcand : candidate (pre ++ (f ++ post)) pre.length = f := by
    rw [candidate, hcandLen, List.drop_left, ← hlen, List.take_left]
  have hrest : (pre ++ (f ++ post)).drop (pre.length + 7 + candLen f 0) = post := by
    rw [Nat.add_assoc, ← hlen, ← List.drop_drop, List.drop_left, List.drop_left]
  rw [scan_of_firstFrameAt (firstFrameAt_append (acceptable_append hf post) hpre hpart), hcandLen, hcand, hrest]
  exact ⟨rfl, rfl, rfl⟩

end Sys2Proof.Machine
end

section
/-! READ: the chunk and the TIMEOUT that reach the agent in it, the round of READ after a scan, and a whole CMD2 from its chunk to its
ACK (spec/41_frame_sync.md R93, R105, R106, spec/60_exceptions.md R214, spec/42_dispatch.md R121, R129). -/

namespace Sys2Proof.Machine

/-! ### Chunks and TIMEOUT -/

/-- A chunk and TIMEOUT are the events of READ alone (notes/assumptions/8.md). -/
theorem defers_readEvent {e : Event} (he : e = .timeout ∨ ∃ c, e = .chunk c) {s : State} (hl : s.link = .bound) :
    defers e s = (s.phase != .reading) := by
  obtain rfl | ⟨c, rfl⟩ := he <;> simp [defers, hl]

/-- In READ its events are no instruction and act at once. -/
theorem step_readEvent {s : State} {e : Event} {rest : List Event} (hw : configWf s.cfg = true) (hl : s.link = .bound)
    (hp : s.phase = .reading) (he : s.env = e :: rest) (hread : e = .timeout ∨ ∃ c, e = .chunk c) :
    step s = .next (eventStep e { s with env := rest }) := by
  have hd : defers e s = false := by rw [defers_readEvent hread hl, hp]; rfl
  have hf : fetch s = none := by obtain rfl | ⟨c, rfl⟩ := hread <;> simp [fetch, he, hd]
  simp [step, hw, hf, internalStep, he, hd]

theorem step_chunk {s : State} {c : List Byte} {rest : List Event} (hw : configWf s.cfg = true) (hl : s.link = .bound)
    (hp : s.phase = .reading) (he : s.env = .chunk c :: rest) (hfit : chunkFits s.cfg c = true) :
    step s = .next { s with env := rest, buf := s.buf ++ c, phase := .scanning } := by
  rw [step_readEvent hw hl hp he (.inr ⟨c, rfl⟩), eventStep, chunkStep, if_pos ⟨hl, hfit⟩, push]

theorem step_timeout {s : State} {rest : List Event} (hw : configWf s.cfg = true) (hl : s.link = .bound)
    (hp : s.phase = .reading) (he : s.env = .timeout :: rest) :
    step s = .next { s with env := rest, reads := s.reads ++ [.timedOut] } := by
  rw [step_readEvent hw hl hp he (.inl rfl), eventStep, timeoutEvent, if_pos hl, timeoutStep]

/-! ### The agent takes no event off the list -/

theorem exec_decodeFrame_env {s t : State} {f : List Byte} {i : Instr} (hd : decodeFrame f = .ok i) (ht : exec i s = .next t) :
    t.env = s.env := by
  obtain ⟨a, p, rfl | rfl | rfl | rfl | rfl⟩ := decodeFrame_cases hd <;> obtain ⟨-, rfl⟩ := guardLength_eq_next.mp ht
  case inl | inr.inl => rfl
  case inr.inr.inl =>
    split
    · rfl
    · rw [respondWith_env, writePairs_frame]
  case inr.inr.inr.inl =>
    split
    · rfl
    · rw [respondQuery_env, readObjects_frame]
  case inr.inr.inr.inr =>
    split
    · rfl
    · rw [respondQuery_env, readPoints_frame]

theorem exec_fetchAgent_env {s u t : State} {c : Code} {i : Instr} (hf : fetchAgent s = some (c, u)) (hd : decode c = .ok i)
    (ht : exec i u = .next t) : t.env = s.env := by
  obtain ⟨-, ⟨f, -, rfl, rfl⟩ | ⟨a, p0, p1, p2, p3, rest, -, rfl, rfl⟩ | ⟨a, q0, q1, rest, -, rfl, rfl⟩⟩ := fetchAgent_cases hf
  · exact exec_decodeFrame_env hd ht
  · cases hd
    rw [decodePair_pairWord, exec_decodeObject] at ht
    cases ht
    rw [writeObj_frame]
  · cases hd
    rw [decodeClsnum_be16, exec_decodePoint] at ht
    cases ht
    rfl

theorem scanStep_env (s : State) : (scanStep s).env = s.env := by
  cases hf : (scan s.buf).frame with
  | some f => rw [scanStep_found hf]
  | none => rw [scanStep_notFound hf]

theorem agentStep_env (s : State) : (agentStep s).env = s.env := by
  rcases agentStep_cases s with he | ⟨-, he⟩ | ⟨a, rest, -, he⟩ | ⟨a, p0, p1, p2, p3, rest, -, he⟩ | ⟨a, rest, -, he⟩ |
      ⟨r, -, he⟩ <;> rw [he]
  case inr.inl => exact scanStep_env s
  case inr.inr.inl => rfl
  case inr.inr.inr.inl => rw [readObject_frame]
  case inr.inr.inr.inr.inl => rfl
  case inr.inr.inr.inr.inr => rfl

/-- A step on the agent's turn leaves the events as taking the turn left them. -/
theorem step_env_of_agentTurn {s u t : State} (ht : AgentTurn s u) (h : step s = .next t) : t.env = u.env := by
  obtain ⟨-, ⟨c, v, i, hf, hd, hx⟩ | ⟨-, rfl⟩⟩ := step_cases h
  · exact exec_fetchAgent_env ((fetch_of_agentTurn ht).symm.trans hf) hd hx
  · rw [internalStep_of_agentTurn ht, agentStep_env]

/-- Settles O49: in READ the event acts at once (`step_chunk`, `step_timeout`); outside READ it waits, so the agent has the turn. -/
theorem readEvents : Obligations.ReadEvents := by
  refine ⟨fun s c rest hw hl hp he hfit => step_chunk hw hl hp he hfit, fun s rest hw hl hp he => step_timeout hw hl hp he, ?waits⟩
  case waits =>
    intro s t e rest hl hp he hread hstep
    have hd : defers e s = true := by rw [defers_readEvent hread hl, bne_iff_ne]; exact hp
    exact step_env_of_agentTurn ⟨hl, .inr (.inr ⟨e, rest, he, hd, rfl⟩)⟩ hstep

/-! ### The round of READ -/

theorem AgentTurn.eq_setEnv {s u : State} (h : AgentTurn s u) : u = { s with env := u.env } := by
  obtain ⟨-, ⟨-, rfl⟩ | ⟨rest, -, rfl⟩ | ⟨e, rest, -, -, rfl⟩⟩ := h <;> rfl

/-- A pushed chunk is scanned on the agent's turn: no instruction is fetched (notes/assumptions/6.md). -/
theorem step_scanning {s u : State} (hw : configWf s.cfg = true) (ht : AgentTurn s u) (hp : s.phase = .scanning) :
    step s = .next (scanStep u) := by
  have hpu : u.phase = .scanning := ht.phase_eq.trans hp
  have hf : fetchAgent u = none := by simp [fetchAgent, hpu]
  rw [step_of_agentTurn_none hw ht hf, agentStep, hpu]

/-- Settles O50: the step is `scanStep`, read off for each of the three things BUF can hold. -/
theorem readRound : Obligations.ReadRound := by
  intro s u hw ht hp
  refine ⟨scanStep u, step_scanning hw ht hp, ?_⟩
  rw [ht.eq_setEnv]
  rcases frontPartial_or_firstFrameAt_or_frameless s.buf with hpart | ⟨i, hi⟩ | hn
  · have hscan := scan_of_frontPartial hpart
    rw [scanStep_notFound (s := { s with env := u.env }) (congrArg ScanResult.frame hscan)]
    refine ⟨rfl, rfl, rfl, rfl, rfl, rfl, ?_⟩
    rw [hscan]
    exact ⟨rfl, rfl⟩
  · have hscan := scan_of_firstFrameAt hi
    rw [scanStep_found (s := { s with env := u.env }) (congrArg ScanResult.frame hscan)]
    refine ⟨rfl, rfl, rfl, rfl, rfl, rfl, ?_⟩
    rw [hscan]
    exact ⟨candidate s.buf i, rfl, rfl, rfl⟩
  · obtain ⟨hout, hnone, -⟩ := scan_of_frameless hn
    rw [scanStep_notFound (s := { s with env := u.env }) hnone]
    refine ⟨rfl, rfl, rfl, rfl, rfl, rfl, ?_⟩
    rw [hout]
    exact ⟨rfl, rfl⟩

/-! ### A CMD2 from its chunk to its ACK -/

theorem frameBytes_length (c : Byte) (a : Addr) (p : List Byte) : (frameBytes c a p).length = 7 + p.length := by
  obtain ⟨k, hk⟩ := frameBytes_eq c a p
  rw [hk]
  simp only [List.length_cons, List.length_append, List.length_nil]
  omega

theorem candLen_frameBytes (c : Byte) (a : Addr) {p : List Byte} (h : p.length < 256) :
    candLen (frameBytes c a p) 0 = p.length :=
  Nat.mod_eq_of_lt h

/-- A whole frame of a command other than CMD0 is one that SCAN accepts (spec/41_frame_sync.md R104). -/
theorem acceptable_frameBytes {c : Byte} (hc : c.toNat ≤ 3) (h0 : c ≠ 0) (a : Addr) {p : List Byte} (hp : p.length ≤ 50) :
    Acceptable (frameBytes c a p) 0 := by
  have hlen := frameBytes_length c a p
  have hcand := candLen_frameBytes c a (show p.length < 256 by omega)
  have hv : verify (frameBytes c a p) = true := verify_sealFrame (by simp) (hcand.trans (by simp))
  refine ⟨by omega, hc, by omega, by omega, fun hz => h0 (hz 0 (by omega)), ?_⟩
  rwa [candidate_eq_self (by omega)]

/-- The scan of a buffer that holds one whole frame and nothing else. -/
theorem scan_frameBytes {c : Byte} (hc : c.toNat ≤ 3) (h0 : c ≠ 0) (a : Addr) {p : List Byte} (hp : p.length ≤ 50) :
    scan (frameBytes c a p) = { outcome := .found, frame := some (frameBytes c a p), buf := [], conds := [] } := by
  have hself : (frameBytes c a p).length = 7 + candLen (frameBytes c a p) 0 := by
    rw [frameBytes_length, candLen_frameBytes c a (by omega)]
  rw [scan_of_acceptable (acceptable_frameBytes hc h0 a hp), candidate_eq_self hself, ← hself, List.drop_length]

/-- The state with other events to come, the agent at another place, and other outcomes of SCAN and results of READ: a pair neither
reads nor writes any of them. -/
def withReads (env : List Event) (ph : Phase) (scans : List ScanOutcome) (reads : List ReadResult) (s : State) : State :=
  { s with env := env, phase := ph, scans := scans, reads := reads }

section
variable (env : List Event) (ph : Phase) (scans : List ScanOutcome) (reads : List ReadResult)

theorem writeVane_withReads (g : VaneGroup) (v : Vane) (val : U16) (s : State) :
    writeVane g v val (withReads env ph scans reads s) = withReads env ph scans reads (writeVane g v val s) := by
  rcases writeVane_cases g v val s with ⟨hs, h⟩ | ⟨hs, h⟩ <;> rw [h]
  · exact if_pos hs
  · exact if_neg (Bool.eq_false_iff.mp hs)

theorem writeOther_withReads (id val : U16) (s : State) :
    writeOther id val (withReads env ph scans reads s) = withReads env ph scans reads (writeOther id val s) := by
  rcases writeOther_cases id val s with ⟨hid, h⟩ | ⟨hid, h⟩ <;> rw [h]
  · exact if_pos hid
  · exact if_neg hid

theorem writeObj_withReads (id val : U16) (s : State) :
    writeObj id val (withReads env ph scans reads s) = withReads env ph scans reads (writeObj id val s) := by
  unfold writeObj
  split
  · exact writeVane_withReads env ph scans reads _ _ val s
  · rfl
  · exact writeOther_withReads env ph scans reads id val s

theorem writePairs_withReads (p : List Byte) (s : State) :
    writePairs p (withReads env ph scans reads s) = withReads env ph scans reads (writePairs p s) := by
  fun_induction writePairs p s with
  | case1 p0 p1 p2 p3 rest s ih => rw [writePairs, writeObj_withReads, ih]
  | case2 p s hp => rw [writePairs.eq_2 _ _ hp]

/-- A response handed over brings an agent that waits with no entries in progress back to its place. -/
theorem transmit_withReads (r : List Byte) {s : State} (hp : s.phase = .reading) (he : s.entries = []) :
    transmit r { withReads env ph scans reads s with entries := [] } =
      { s with env := env, tx := s.tx ++ [r], scans := scans, reads := reads } := by
  rw [transmit, withReads, ← hp, ← he]
end

theorem runSteps_add {m n : Nat} {s t : State} (h : runSteps m s = some t) : runSteps (m + n) s = runSteps n t := by
  induction m generalizing s with
  | zero => cases h; rw [Nat.zero_add]
  | succ m ih =>
    rw [Nat.add_right_comm, runSteps]
    rw [runSteps] at h
    split at h
    · exact ih h
    · cases h
    · cases h

/-- A chunk that is one frame, pushed into the empty buffer of a waiting agent, is with the dispatcher after two steps. -/
theorem runSteps_deliver {c : Byte} (hc : c.toNat ≤ 3) (h0 : c ≠ 0) (a : Addr) {p : List Byte} (hp : p.length ≤ 50) {s : State}
    (hw : configWf s.cfg = true) (hl : s.link = .bound) (hread : s.phase = .reading) (hbuf : s.buf = [])
    (he : s.env = [.chunk (frameBytes c a p)]) (hfit : chunkFits s.cfg (frameBytes c a p) = true) :
    runSteps 2 s = some (withReads [] (.dispatching (frameBytes c a p)) (s.scans ++ [.found])
      (s.reads ++ [.frame (frameBytes c a p)]) s) := by
  have hscan := scan_frameBytes hc h0 a hp
  rw [runSteps_succ (step_chunk hw hl hread he hfit), hbuf, List.nil_append]
  refine (runSteps_one (step_scanning (s := { s with env := [], buf := frameBytes c a p, phase := .scanning }) hw
    ⟨hl, .inl ⟨rfl, rfl⟩⟩ rfl)).trans (congrArg some ?_)
  rw [scanStep_found (congrArg ScanResult.frame hscan), hscan, withReads, List.append_nil, hbuf]

/-- A response waiting for TX is handed over on the agent's turn. -/
theorem step_responding {s : State} {r : List Byte} (hs : Uninterrupted s) (hp : s.phase = .responding r) :
    step s = .next (transmit r s) := by
  have hf : fetchAgent s = none := by simp [fetchAgent, hp]
  rw [step_of_agentTurn_none hs.wf hs.agentTurn hf, agentStep, hp]

theorem uninterrupted_withReads {s : State} (ph : Phase) (scans : List ScanOutcome) (reads : List ReadResult)
    (hw : configWf s.cfg = true) (hl : s.link = .bound) : Uninterrupted (withReads [] ph scans reads s) := ⟨hw, hl, rfl⟩

theorem uninterrupted_writePairs {s : State} (p : List Byte) (h : Uninterrupted s) : Uninterrupted (writePairs p s) := by
  rw [writePairs_frame]
  exact ⟨h.wf, h.bound, h.noEvent⟩

theorem uninterrupted_respondWith {s : State} (c : Byte) (a : Addr) (body : List Byte) (h : Uninterrupted s) :
    Uninterrupted (respondWith c a body s) := ⟨h.wf, h.bound, h.noEvent⟩

/-- A CMD2 with the dispatcher is begun, applied pair by pair and answered (`runSteps_writing`), and its answer handed over. -/
theorem runSteps_dispatch_cmd2 (a : Addr) {p : List Byte} (hp : p.length ≤ 50) {s : State} (hs : Uninterrupted s)
    (hpair : s.cfg.atomicUnit = .pair) (hdisp : s.phase = .dispatching (frameBytes 0x02 a p)) :
    runSteps (p.length / 4 + 3) s = some (transmit (response 0x02 a [ackByte]) { writePairs p s with entries := [] }) := by
  have hbegin : step s = .next (withAgent s.cfg.atomicUnit (.writing a p) [] s) := by
    rw [step_of_agentTurn hs.wf hs.agentTurn (fetchAgent_dispatching hs.bound hdisp)
      (decode_frameBytes (i := .cmd2 a p) (decide_eq_true hp) rfl), exec_cmd2_pair a p hpair, guardLength_of_le hp]
    rfl
  have hdone := uninterrupted_withAgent s.cfg.atomicUnit (.writing a p) [] (uninterrupted_writePairs p hs)
  have hcfg : (writePairs p s).cfg = s.cfg := by rw [writePairs_frame]
  rw [runSteps_succ hbegin, runSteps_add (n := 1) (runSteps_writing s.cfg.atomicUnit a p hs),
    runSteps_one (step_responding (uninterrupted_respondWith 0x02 a [ackByte] hdone) rfl), ← hcfg]
  rfl

/-- Settles O10: the chunk is delivered (`runSteps_deliver`) and the command run to TX (`runSteps_dispatch_cmd2`); what READ leaves
behind has no part in the pairs (`writePairs_withReads`). -/
theorem objectWriteFrameAnswered : Obligations.ObjectWriteFrameAnswered := by
  intro a p s hw hpair hl hread hbuf hes hp he hfit
  have hdeliver := runSteps_deliver (c := 0x02) (by decide) (by decide) a hp hw hl hread hbuf he hfit
  have hphase : (writePairs p s).phase = .reading := by rw [writePairs_frame]; exact hread
  have hentries : (writePairs p s).entries = [] := by rw [writePairs_frame]; exact hes
  have htx : (writePairs p s).tx = s.tx := by rw [writePairs_frame]
  rw [show p.length / 4 + 5 = 2 + (p.length / 4 + 3) by omega, runSteps_add hdeliver]
  refine (runSteps_dispatch_cmd2 a hp (uninterrupted_withReads _ _ _ hw hl) hpair rfl).trans (congrArg some ?_)
  rw [writePairs_withReads, transmit_withReads _ _ _ _ _ hphase hentries, htx]
  rfl

end Sys2Proof.Machine
end

section
/-! What the five commands answer: the payload they refuse, the bytes of the response each builds, and where it begins its sections
(spec/42_dispatch.md R118 to R132). -/

namespace Sys2Proof.Machine

/-! ### Payloads longer than LEN_MAX -/

/-- Settles O6: the decoder tests the length byte before anything else, and each command's meaning stands behind `guardLength`. -/
theorem dispatchRefusesLongPayload : Obligations.DispatchRefusesLongPayload := by
  refine ⟨fun c a n body hn => ?_, fun a p s hp => ?_⟩
  · have hgt : lenMax < n.toNat := hn
    exact if_pos hgt
  · have hrefused (t : State) : guardLength p t = .refused .payloadTooLong := guardLength_of_gt hp t
    exact ⟨hrefused _, hrefused _, hrefused _, hrefused _, hrefused _⟩

/-! ### The bytes of a response -/

section
variable (c : Byte) (a : Addr) (s : State)

theorem respondWith_echo (e : EchoBody) :
    respondWith c a (handshakeBody (some e)) s =
      { s with phase := .responding (sealFrame [c, a.a1, a.a2, a.a3, 0x04, e.e0, e.e1, e.s0, e.s1]), entries := [] } := rfl

theorem respondWith_ack :
    respondWith c a [ackByte] s =
      { s with phase := .responding (sealFrame [c, a.a1, a.a2, a.a3, 0x01, 0x01]), entries := [] } := rfl

end

theorem queryBody_length (cfg : Config) (es : List Byte) : (queryBody cfg es).length = 2 + es.length := by
  rw [queryBody, List.length_append, List.length_cons, List.length_singleton]

/-- The response of a CMD3 written out (spec/42_dispatch.md R123, R125, spec/30_encoding.md R73). -/
theorem response_queryBody (cfg : Config) (a : Addr) (es : List Byte) :
    response 0x03 a (queryBody cfg es) =
      sealFrame ([0x03, a.a1, a.a2, a.a3, BitVec.ofNat 8 (2 + es.length), 0x01,
        BitVec.ofNat 8 (es.length + cfg.cmd3LBias)] ++ es) := by
  rw [response, queryBody_length]; rfl

/-! ### CMD0 and CMD1 -/

section
variable (a : Addr) {p : List Byte} (s : State)

theorem exec_cmd0 (hp : p.length ≤ lenMax) :
    exec (.cmd0 a p) s = .next (respondWith 0x00 a (handshakeBody (s.cfg.hs0.lookup p)) s) := guardLength_of_le hp _

theorem exec_cmd1 (hp : p.length ≤ lenMax) :
    exec (.cmd1 a p) s = .next (respondWith 0x01 a (handshakeBody (s.cfg.hs1.lookup p)) s) := guardLength_of_le hp _
end

/-- Settles O7: the body is the echo or the ACK as the parameter answers. -/
theorem handshakeResponds : Obligations.HandshakeResponds := by
  intro a p s hp
  rw [exec_cmd0 a s hp, exec_cmd1 a s hp]
  constructor
  · cases s.cfg.hs0.lookup p with
    | some e => exact congrArg _ (respondWith_echo 0x00 a s e)
    | none => exact congrArg _ (respondWith_ack 0x00 a s)
  · cases s.cfg.hs1.lookup p with
    | some e => exact congrArg _ (respondWith_echo 0x01 a s e)
    | none => exact congrArg _ (respondWith_ack 0x01 a s)

/-! ### CMD2 and CMD3 -/

/-- The answer to a CMD3 whose entries are complete, in a state with the configuration the command began under. -/
theorem respondQuery_eq {t : State} {cfg : Config} (hcfg : t.cfg = cfg) (a : Addr) :
    respondQuery a t = { t with
      phase := .responding (sealFrame ([0x03, a.a1, a.a2, a.a3, BitVec.ofNat 8 (2 + t.entries.length), 0x01,
        BitVec.ofNat 8 (t.entries.length + cfg.cmd3LBias)] ++ t.entries))
      entries := [] } := by
  rw [respondQuery, respondWith, response_queryBody, hcfg]

/-- Settles O8: the payload passes the guard, and under FRAME the response is that of `respondWith_ack` or `respondQuery_eq`. -/
theorem commandsBeginOrRun : Obligations.CommandsBeginOrRun := by
  intro a p s hp
  have hguard (t : State) : guardLength p t = .next t := guardLength_of_le hp t
  refine ⟨fun hpair => ?_, fun hframe => ?_⟩
  · rw [exec_cmd2_pair a p hpair, exec_cmd3Obj_pair a p hpair, exec_cmd3Cls_pair a p hpair]
    exact ⟨hguard _, hguard _, hguard _⟩
  · rw [exec_cmd2_frame a p hframe, exec_cmd3Obj_frame a p hframe, exec_cmd3Cls_frame a p hframe, hguard, hguard, hguard]
    refine ⟨congrArg _ (respondWith_ack 0x02 a _), ?_, ?_⟩
    · rintro es rfl
      have hcfg : (readObjects p { s with entries := [] }).cfg = s.cfg := by rw [readObjects_frame]
      exact congrArg _ (respondQuery_eq hcfg a)
    · rintro es rfl
      have hcfg : (readPoints p { s with entries := [] }).cfg = s.cfg := by rw [readPoints_frame]
      exact congrArg _ (respondQuery_eq hcfg a)

end Sys2Proof.Machine
end

section
/-! The order in which the pairs and entries of a payload take effect, and how many bytes a CMD3 answers
(spec/42_dispatch.md R122, R127, spec/20_memory.md R43). -/

namespace Sys2Proof.Machine

/-! ### Leftover bytes -/

theorem writePairs_short {q : List Byte} (h : q.length < 4) (s : State) : writePairs q s = s := by
  match q, h with
  | [], _ | [_], _ | [_, _], _ | [_, _, _], _ => rfl

theorem readObjects_short {q : List Byte} (h : q.length < 4) (s : State) : readObjects q s = s := by
  match q, h with
  | [], _ | [_], _ | [_, _], _ | [_, _, _], _ => rfl

theorem readPoints_short {q : List Byte} (h : q.length < 2) (s : State) : readPoints q s = s := by
  match q, h with
  | [], _ | [_], _ => rfl

/-! ### A payload cut at a whole pair -/

theorem mod_four_of_cons {p0 p1 p2 p3 : Byte} {rest : List Byte} (h : (p0 :: p1 :: p2 :: p3 :: rest).length % 4 = 0) :
    rest.length % 4 = 0 := (Nat.add_mod_right _ 4).symm.trans h

theorem mod_two_of_cons {q0 q1 : Byte} {rest : List Byte} (h : (q0 :: q1 :: rest).length % 2 = 0) : rest.length % 2 = 0 :=
  (Nat.add_mod_right _ 2).symm.trans h

/-- A payload of whole pairs that holds no pair is empty. -/
theorem eq_nil_of_lt_of_mod {p : List Byte} {n : Nat} (hlt : p.length < n) (hmod : p.length % n = 0) : p = [] :=
  List.length_eq_zero_iff.mp ((Nat.mod_eq_of_lt hlt).symm.trans hmod)

theorem writePairs_append {p : List Byte} (q : List Byte) (s : State) (h : p.length % 4 = 0) :
    writePairs (p ++ q) s = writePairs q (writePairs p s) := by
  fun_induction writePairs p s with
  | case1 p0 p1 p2 p3 rest s ih => exact ih (mod_four_of_cons h)
  | case2 p s hp => rw [eq_nil_of_lt_of_mod (length_lt_four hp) h, List.nil_append]

theorem readObjects_append {p : List Byte} (q : List Byte) (s : State) (h : p.length % 4 = 0) :
    readObjects (p ++ q) s = readObjects q (readObjects p s) := by
  fun_induction readObjects p s with
  | case1 p0 p1 p2 p3 rest s ih => exact ih (mod_four_of_cons h)
  | case2 p s hp => rw [eq_nil_of_lt_of_mod (length_lt_four hp) h, List.nil_append]

theorem readPoints_append {p : List Byte} (q : List Byte) (s : State) (h : p.length % 2 = 0) :
    readPoints (p ++ q) s = readPoints q (readPoints p s) := by
  fun_induction readPoints p s with
  | case1 q0 q1 rest s ih => exact ih (mod_two_of_cons h)
  | case2 p s hp => rw [eq_nil_of_lt_of_mod (length_lt_two hp) h, List.nil_append]

/-! ### The setpoint written twice -/

/-- Two SETPT pairs are two plain writes, the second on what the first has left. -/
theorem writePairs_setpt_setpt (v0 v1 w0 w1 : Byte) (s : State) :
    writePairs [0x10, 0x02, v0, v1, 0x10, 0x02, w0, w1] s =
      writePlain .setpt (be16 w0 w1) (writePlain .setpt (be16 v0 v1) s) := by
  have hid : be16 0x10 0x02 = objId .setpt := by decide
  have hmem : Obj.setpt ∈ plainRegistry := by decide
  rw [writePairs, writePairs, writePairs_short (by decide), hid, writeObj_plain hmem, writeObj_plain hmem]

/-- A SETPT write gives the snapshot its value when that is a setpoint (spec/45_state_sync.md R182). -/
theorem writePlain_setpt_setpoint (x : U16) (s : State) :
    (writePlain .setpt x s).snap.setpoint = (setpointOf x).getD s.snap.setpoint := by
  rw [writePlain_snap, r2s_bankWrite_setpt]

/-- Settles O11: each fold over a payload splits at a whole pair; 200 is a setpoint and 999 is none. -/
theorem pairsTakeEffectInOrder : Obligations.PairsTakeEffectInOrder := by
  refine ⟨fun p q s h => ⟨writePairs_append q s h, readObjects_append q s h⟩, fun p q s h => readPoints_append q s h,
    fun s => ?setpoint, fun q s h => ⟨writePairs_short h s, readObjects_short h s⟩, fun q s h => readPoints_short h s⟩
  case setpoint =>
    have h200 : setpointOf (be16 0x00 0xC8) = some 200 := by decide
    have h999 : setpointOf (be16 0x03 0xE7) = none := by decide
    rw [writePairs_setpt_setpt, writePlain_setpt_setpoint, writePlain_setpt_setpoint, h200, h999]
    exact ⟨by rw [writePlain_regs]; rfl, rfl⟩

/-! ### Sizes -/

theorem readObjects_entries_length (p : List Byte) (s : State) :
    (readObjects p s).entries.length = s.entries.length + 4 * (p.length / 4) := by
  fun_induction readObjects p s with
  | case1 p0 p1 p2 p3 rest s ih =>
    rw [readObject_entries_length] at ih
    simp only [List.length_cons]
    omega
  | case2 p s hp => rw [Nat.div_eq_of_lt (length_lt_four hp), Nat.mul_zero, Nat.add_zero]

theorem readPoints_entries_length (p : List Byte) (s : State) :
    (readPoints p s).entries.length = s.entries.length + 4 * (p.length / 2) := by
  fun_induction readPoints p s with
  | case1 q0 q1 rest s ih =>
    simp only [answerPoint_entries, List.length_append, statusEntry_length] at ih
    simp only [List.length_cons]
    omega
  | case2 p s hp => rw [Nat.div_eq_of_lt (length_lt_two hp), Nat.mul_zero, Nat.add_zero]

theorem response_queryBody_length (c : Config) (a : Addr) (es : List Byte) :
    (response 0x03 a (queryBody c es)).length = 9 + es.length := by
  rw [response_length, queryBody_length]; omega

/-- Settles O12: four bytes for each whole pair of the payload, and the fixed bytes of body and frame around them. -/
theorem queryResponseSizes : Obligations.QueryResponseSizes := by
  have hobjects (p : List Byte) (s : State) : (readObjects p { s with entries := [] }).entries.length = 4 * (p.length / 4) :=
    (readObjects_entries_length p _).trans (Nat.zero_add _)
  have hpoints (p : List Byte) (s : State) : (readPoints p { s with entries := [] }).entries.length = 4 * (p.length / 2) :=
    (readPoints_entries_length p _).trans (Nat.zero_add _)
  refine ⟨fun p s h => ?_, hpoints, fun c a es => ⟨queryBody_length c es, response_queryBody_length c a es⟩,
    fun a p s hp => ⟨?_, ?_⟩⟩
  · rw [hobjects]; omega
  · rw [response_queryBody_length, hpoints]; omega
  · rw [response_queryBody_length, hobjects]; omega

end Sys2Proof.Machine
end

section
/-! What is handed to TX: only the response that a dispatch has built, by the agent's own turn or by a TX that the writer fails
(spec/42_dispatch.md R129, spec/60_exceptions.md R205). -/

namespace Sys2Proof.Machine

/-! ### What an instruction leaves -/

/-- Nothing has changed but DeviceState, what goes out to the host, and the diagnostics. -/
def HostFrame (s t : State) : Prop :=
  t = { s with model := t.model, regs := t.regs, snap := t.snap, persisted := t.persisted, returned := t.returned, diag := t.diag }

theorem HostFrame.tx_eq {s t : State} (h : HostFrame s t) : t.tx = s.tx := by rw [h]

/-- Whether it accepts or rejects, a host operation leaves the agent and its outputs alone. Unlike `exec_decodeHostOp_section` this
needs no consistent snapshot. -/
theorem hostFrame_of_exec {s t : State} {op idx : Byte} {arg : U16} (h : exec (decodeHostOp op idx arg) s = .next t) :
    HostFrame s t := by
  unfold decodeHostOp at h
  split at h
  -- GET_STATE, SET_POWER, GET_CAPS and an operation code above 0x0C have one outcome, the others two.
  case h_1 | h_2 | h_9 | h_14 => cases h; rfl
  all_goals
    simp only [exec, execSetMode, execSetTemp, execSetFan, execSetSwing, execSetRoomTemp, execSetModel, execSetVvanePos,
      execSetVvaneSwing, execSetHvanePos, execSetHvaneSwing] at h
    split at h <;> cases h <;> rfl

/-- Nothing has changed but the registers, the snapshot, the diagnostics and the agent's place in its dispatch. -/
def DispatchFrame (s t : State) : Prop :=
  t = { s with phase := t.phase, entries := t.entries, regs := t.regs, snap := t.snap, diag := t.diag }

theorem DispatchFrame.tx_eq {s t : State} (h : DispatchFrame s t) : t.tx = s.tx := by rw [h]

theorem dispatchFrame_writePairs (p : List Byte) (s : State) : DispatchFrame s (writePairs p s) := by
  rw [writePairs_frame]; rfl

theorem dispatchFrame_readObjects (p : List Byte) (s : State) : DispatchFrame s (readObjects p { s with entries := [] }) := by
  rw [readObjects_frame]; rfl

theorem dispatchFrame_readPoints (p : List Byte) (s : State) : DispatchFrame s (readPoints p { s with entries := [] }) := by
  rw [readPoints_frame]; rfl

theorem dispatchFrame_respondWith {s t : State} (c : Byte) (a : Addr) (body : List Byte) (h : DispatchFrame s t) :
    DispatchFrame s (respondWith c a body t) := by
  rw [DispatchFrame] at h
  rw [h]; rfl

/-- A command hands nothing over: it begins its sections or builds its response. -/
theorem dispatchFrame_of_exec_frame {s t : State} {f : List Byte} {i : Instr} (hd : decodeFrame f = .ok i)
    (h : exec i s = .next t) : DispatchFrame s t := by
  obtain ⟨a, p, rfl | rfl | rfl | rfl | rfl⟩ := decodeFrame_cases hd <;> obtain ⟨-, rfl⟩ := guardLength_eq_next.mp h
  case inl | inr.inl => rfl
  case inr.inr.inl =>
    split
    · rfl
    · exact dispatchFrame_respondWith 0x02 a [ackByte] (dispatchFrame_writePairs p s)
  case inr.inr.inr.inl =>
    split
    · rfl
    · exact dispatchFrame_respondWith 0x03 a _ (dispatchFrame_readObjects p s)
  case inr.inr.inr.inr =>
    split
    · rfl
    · exact dispatchFrame_respondWith 0x03 a _ (dispatchFrame_readPoints p s)

/-- Whatever instruction the agent fetches, it hands nothing over. -/
theorem dispatchFrame_of_exec_fetchAgent {s u t : State} {c : Code} {i : Instr} (hf : fetchAgent s = some (c, u))
    (hd : decode c = .ok i) (h : exec i u = .next t) : DispatchFrame s t := by
  obtain ⟨-, ⟨f, -, rfl, rfl⟩ | ⟨a, p0, p1, p2, p3, rest, -, rfl, rfl⟩ | ⟨a, q0, q1, rest, -, rfl, rfl⟩⟩ := fetchAgent_cases hf
  · exact dispatchFrame_of_exec_frame hd h
  · cases hd
    rw [decodePair_pairWord, exec_decodeObject] at h
    cases h
    rw [writeObj_frame]; rfl
  · cases hd
    rw [decodeClsnum_be16, exec_decodePoint] at h
    cases h
    rfl

/-! ### What a step hands over -/

/-- The one response that waited for TX has been handed over, and the agent reads again. -/
def HandsOver (s t : State) : Prop :=
  ∃ r, s.link = .bound ∧ s.phase = .responding r ∧ t.tx = s.tx ++ [r] ∧ t.phase = .reading

theorem handsOver_transmit {s : State} {r : List Byte} (hl : s.link = .bound) (hp : s.phase = .responding r) :
    HandsOver s (transmit r s) := ⟨r, hl, hp, rfl, rfl⟩

theorem scanStep_tx (s : State) : (scanStep s).tx = s.tx := by
  cases hf : (scan s.buf).frame with
  | some f => rw [scanStep_found hf]
  | none => rw [scanStep_notFound hf]

theorem agentTurn_tx (s : State) : (agentTurn s).tx = s.tx ∨ HandsOver s (agentTurn s) := by
  unfold agentTurn
  split
  case isFalse => exact .inl rfl
  case isTrue hl =>
    rcases agentStep_cases s with he | ⟨-, he⟩ | ⟨a, rest, -, he⟩ | ⟨a, p0, p1, p2, p3, rest, -, he⟩ | ⟨a, rest, -, he⟩ |
        ⟨r, hp, he⟩ <;> rw [he]
    case inl => exact .inl rfl
    case inr.inl => exact .inl (scanStep_tx s)
    case inr.inr.inl => exact .inl rfl
    case inr.inr.inr.inl => rw [readObject_frame]; exact .inl rfl
    case inr.inr.inr.inr.inl => exact .inl rfl
    case inr.inr.inr.inr.inr => exact .inr (handsOver_transmit hl hp)

theorem txFailStep_tx (s : State) : (txFailStep s).tx = s.tx ∨ HandsOver s (txFailStep s) := by
  unfold txFailStep
  split
  · next r hl hp => exact .inr (handsOver_transmit hl hp)
  · exact .inl rfl

theorem chunkStep_tx (c : List Byte) (s : State) : (chunkStep c s).tx = s.tx := by
  unfold chunkStep
  split <;> rfl

theorem timeoutEvent_tx (s : State) : (timeoutEvent s).tx = s.tx := by
  unfold timeoutEvent
  split <;> rfl

theorem transportFailStep_tx (s : State) : (transportFailStep s).tx = s.tx := by
  unfold transportFailStep
  split <;> rfl

theorem rebindStep_tx (s : State) : (rebindStep s).tx = s.tx := by
  unfold rebindStep
  split <;> rfl

/-- Of the environment's events RESET alone clears the TX trace, and a failing TX alone hands a frame over. -/
theorem eventStep_tx (e : Event) (s : State) :
    (eventStep e s).tx = s.tx ∨ HandsOver s (eventStep e s) ∨ ∃ id, e = .reset id := by
  cases e with
  | agent => exact (agentTurn_tx s).imp_right .inl
  | chunk c => exact .inl (chunkStep_tx c s)
  | timeout => exact .inl (timeoutEvent_tx s)
  | host w => exact .inl rfl
  | transportFail => exact .inl (transportFailStep_tx s)
  | rebind => exact .inl (rebindStep_tx s)
  | reset id => exact .inr (.inr ⟨id, rfl⟩)
  | txFail => exact (txFailStep_tx s).imp_right .inl

theorem internalStep_tx (s : State) :
    (internalStep s).tx = s.tx ∨ HandsOver s (internalStep s) ∨ ∃ id rest, s.env = .reset id :: rest := by
  rcases internalStep_cases s with he | ⟨e, rest, henv, -, he⟩ <;> rw [he]
  · exact (agentTurn_tx s).imp_right .inl
  · exact (eventStep_tx e { s with env := rest }).imp_right (.imp_right fun ⟨id, hid⟩ => ⟨id, rest, hid ▸ henv⟩)

theorem step_tx {s t : State} (h : step s = .next t) :
    t.tx = s.tx ∨ HandsOver s t ∨ ∃ id rest, s.env = .reset id :: rest := by
  obtain ⟨-, ⟨c, u, i, hf, hd, hx⟩ | ⟨-, rfl⟩⟩ := step_cases h
  · left
    rcases fetch_cases hf with ⟨w, rest, -, rfl, rfl⟩ | hf | ⟨rest, -, hf⟩
    · cases hd
      exact (hostFrame_of_exec hx).tx_eq
    · exact (dispatchFrame_of_exec_fetchAgent hf hd hx).tx_eq
    · exact (dispatchFrame_of_exec_fetchAgent hf hd hx).tx_eq
  · exact internalStep_tx s

/-! ### The step at TX -/

theorem fetchAgent_responding {s : State} {r : List Byte} (hp : s.phase = .responding r) : fetchAgent s = none := by
  simp [fetchAgent, hp]

theorem agentStep_responding {s : State} {r : List Byte} (hp : s.phase = .responding r) : agentStep s = transmit r s := by
  simp [agentStep, hp]

theorem step_transmit {s u : State} {r : List Byte} (hw : configWf s.cfg = true) (ht : AgentTurn s u)
    (hp : s.phase = .responding r) : step s = .next (transmit r u) := by
  have hpu := ht.phase_eq.trans hp
  rw [step_of_agentTurn_none hw ht (fetchAgent_responding hpu), agentStep_responding hpu]

/-- A failing TX is fetched by nobody and never waits. -/
theorem step_txFail {s : State} {rest : List Event} (hw : configWf s.cfg = true) (he : s.env = .txFail :: rest) :
    step s = .next (txFailStep { s with env := rest }) := by
  have hd : defers .txFail s = false := by simp [defers]
  simp [step, hw, fetch, internalStep, he, hd, eventStep]

theorem txFailStep_responding {s : State} {r : List Byte} (hl : s.link = .bound) (hp : s.phase = .responding r) :
    txFailStep s = raise .txFailed (transmit r s) := by
  simp only [txFailStep, hl, hp]

/-- Settles O46: `step_tx` for every step, `step_transmit` for the agent's turn at TX, `step_txFail` for the writer's failure. -/
theorem transmissionOnlyAnswers : Obligations.TransmissionOnlyAnswers := by
  refine ⟨fun s t h => step_tx h, fun s u r hw ht hp => ?turn, fun s r rest hw hl hp he => ?fail⟩
  case turn =>
    have htx : u.tx = s.tx := by rw [ht.eq_setEnv]
    rw [step_transmit hw ht hp, transmit, htx]
  case fail => exact (step_txFail hw he).trans (congrArg _ (txFailStep_responding (s := { s with env := rest }) hl hp))

end Sys2Proof.Machine
end

section
/-! What each object write does: the register it stores, the snapshot that R2S makes of a consistent one, and the writes that are
ignored (spec/43_object_writes.md R135 to R156). -/

namespace Sys2Proof.Machine

/-! ### A register stored and the snapshot recomputed -/

section
variable {s : State} {i : Instr} {o : Obj} {x : U16}

theorem storesReg_writePlain (o : Obj) (x : U16) (s : State) : StoresReg o x s (writePlain o x s) :=
  ⟨bankRead_bankWrite_same s.regs o x, fun _ hne => bankRead_bankWrite_other s.regs x hne⟩

theorem storesAndResyncs_of_exec (h : exec i s = .next (writePlain o x s)) : StoresAndResyncs i o x s :=
  ⟨_, h, storesReg_writePlain o x s, rfl, rfl⟩

theorem storesWithSnapshot_of_exec {snap : Snapshot} (h : exec i s = .next (writePlain o x s))
    (hsnap : r2s s.model (bankWrite s.regs o x) s.snap = snap) : StoresWithSnapshot i o x snap s :=
  ⟨_, h, storesReg_writePlain o x s, rfl, hsnap⟩

end

/-! ### What R2S makes of one new register value -/

theorem modeOf_getD (x : U16) (m : HvacMode) :
    (modeOf x).getD m =
      if x = 0 then .auto else if x = 1 then .cool else if x = 2 then .dry else if x = 3 then .fan
      else if x = 4 then .heat else m := by
  unfold modeOf
  split
  case h_6 h0 h1 h2 h3 h4 =>
    have hne (y : U16) : x.toNat ≠ y.toNat → x ≠ y := BitVec.toNat_ne_iff_ne.mp
    rw [if_neg (hne 0 h0), if_neg (hne 1 h1), if_neg (hne 2 h2), if_neg (hne 3 h3), if_neg (hne 4 h4)]
    rfl
  all_goals
    next hx => rw [eq_ofNat_of_toNat_eq hx]; rfl

theorem fanOf_getD (x : U16) (f : FanSpeed) :
    (fanOf x).getD f =
      if x = 0 then .auto else if x = 2 then .quiet else if x = 5 then .low else if x = 8 then .medium
      else if x = 11 then .high else f := by
  unfold fanOf
  split
  case h_6 h0 h2 h5 h8 h11 =>
    have hne (y : U16) : x.toNat ≠ y.toNat → x ≠ y := BitVec.toNat_ne_iff_ne.mp
    rw [if_neg (hne 0 h0), if_neg (hne 2 h2), if_neg (hne 5 h5), if_neg (hne 8 h8), if_neg (hne 11 h11)]
    rfl
  all_goals
    next hx => rw [eq_ofNat_of_toNat_eq hx]; rfl

theorem setpointOf_getD (x : U16) (n : Nat) :
    (setpointOf x).getD n = if 160 ≤ x.toNat ∧ x.toNat ≤ 300 then x.toNat else n := by
  split
  · next h => rw [setpointOf_eq_some.mpr ⟨h, rfl⟩, Option.getD_some]
  · next h =>
    cases hx : setpointOf x with
    | none => rfl
    | some k => exact absurd (setpointOf_eq_some.mp hx).1 h

theorem roomOf_getD (x : U16) (t : Int) : (roomOf x).getD t = if x.toNat ≤ 13000 then (x.toNat : Int) - 5000 else t := by
  split
  · next h => rw [roomOf_eq_some.mpr ⟨h, rfl⟩, Option.getD_some]
  · next h =>
    cases hx : roomOf x with
    | none => rfl
    | some k => exact absurd (roomOf_eq_some.mp hx).1 h

/-- Swing after a write to a register of SWINGSET: the new value, or some other register of the set. -/
theorem swingOf_bankWrite_eq_swingAfter (s : State) {o : Obj} (x : U16) (ho : o ∈ swingSet) :
    swingOf (bankWrite s.regs o x) = swingAfter o x s := by
  rw [Bool.eq_iff_iff, swingOf_eq_true, swingAfter, decide_eq_true_iff]
  constructor
  · rintro ⟨a, ha, hne⟩
    by_cases hao : a = o
    · subst hao
      exact .inl (by rwa [bankRead_bankWrite_same] at hne)
    · exact .inr ⟨a, ha, hao, by rwa [bankRead_bankWrite_other _ _ hao] at hne⟩
  · rintro (hx | ⟨a, ha, hao, hne⟩)
    · exact ⟨o, ho, by rwa [bankRead_bankWrite_same]⟩
    · exact ⟨a, ha, by rwa [bankRead_bankWrite_other _ _ hao]⟩

theorem r2s_bankWrite_hswgG (m : Model) (b : Bank) (x : U16) (S : Snapshot) :
    r2s m (bankWrite b .hswgG x) S = { r2s m b S with swing := swingOf (bankWrite b .hswgG x) } := rfl

/-- The registers that R2S reads (spec/45_state_sync.md R178 to R183). -/
def snapshotSources : List Obj := [.onoff, .mode, .setpt, .fan, .roomt] ++ swingSet

/-- A register that R2S does not read moves no field of the snapshot. -/
theorem r2s_bankWrite_of_notMem (m : Model) (b : Bank) {o : Obj} (x : U16) (S : Snapshot) (ho : o ∉ snapshotSources) :
    r2s m (bankWrite b o x) S = r2s m b S := by
  have hkept : ∀ p ∈ snapshotSources, bankRead (bankWrite b o x) p = bankRead b p := fun p hp =>
    bankRead_bankWrite_other b x fun e => ho (e ▸ hp)
  have hswing : swingOf (bankWrite b o x) = swingOf b :=
    swingOf_bankWrite_of_notMem b x fun h => ho (List.mem_append_right _ h)
  exact r2s_congr (hkept .onoff (by decide)) (hkept .mode (by decide)) (hkept .setpt (by decide)) (hkept .fan (by decide))
    (hkept .roomt (by decide)) hswing

/-! ### The plain registers -/

theorem exec_wrUnknown_of_mem {id : U16} {s : State} (h : id ∈ s.cfg.extraObj) (val : U16) :
    exec (.wrUnknown id val) s = .next (writePlain (.extra id) val s) := congrArg _ (if_pos h)

/-- Settles O13: the meaning of each of the rows is `writePlain` on its register. -/
theorem plainWritesStore : Obligations.PlainWritesStore := by
  intro val s
  have hstores {i : Instr} {o : Obj} (h : exec i s = .next (writePlain o val s)) : StoresAndResyncs i o val s :=
    storesAndResyncs_of_exec h
  exact ⟨hstores rfl, hstores rfl, hstores rfl, hstores rfl, hstores rfl, hstores rfl, hstores rfl, hstores rfl, hstores rfl,
    hstores rfl, hstores rfl, hstores rfl, fun id hid => hstores (exec_wrUnknown_of_mem hid val)⟩

/-- Settles O14: R2S of the consistent snapshot moves power alone. -/
theorem powerWrite : Obligations.PowerWrite := by
  intro val s h
  refine storesWithSnapshot_of_exec rfl ?_
  have hpower : (val != 0) = decide (val ≠ 0) := powerOf_eq (bankWrite s.regs .onoff val)
  rw [r2s_bankWrite_onoff, ← h, hpower]

/-- Settles O15: R2S moves mode or fan speed alone, as `modeOf_getD` and `fanOf_getD` say. -/
theorem modeAndFanWrites : Obligations.ModeAndFanWrites := by
  intro val s h
  constructor <;> refine storesWithSnapshot_of_exec rfl ?_
  · rw [r2s_bankWrite_mode, ← h, modeOf_getD]
  · rw [r2s_bankWrite_fan, ← h, fanOf_getD]

/-- Settles O16: R2S moves the setpoint or the room temperature alone, as `setpointOf_getD` and `roomOf_getD` say. -/
theorem temperatureWrites : Obligations.TemperatureWrites := by
  intro val s h
  constructor <;> refine storesWithSnapshot_of_exec rfl ?_
  · rw [r2s_bankWrite_setpt, ← h, setpointOf_getD]
  · rw [r2s_bankWrite_roomt, ← h, roomOf_getD]

/-- Settles O17: both registers are of SWINGSET, and R2S moves swing alone. -/
theorem globalSwingWrites : Obligations.GlobalSwingWrites := by
  intro val s h
  constructor <;> refine storesWithSnapshot_of_exec rfl ?_
  · rw [r2s_bankWrite_vswgG, ← h, swingOf_bankWrite_eq_swingAfter s val (by decide)]
  · rw [r2s_bankWrite_hswgG, ← h, swingOf_bankWrite_eq_swingAfter s val (by decide)]

/-- Settles O18: R2S reads none of the five registers. -/
theorem silentWrites : Obligations.SilentWrites := by
  intro val s h
  have hstores {i : Instr} {o : Obj} (hx : exec i s = .next (writePlain o val s)) (ho : o ∉ snapshotSources) :
      StoresWithSnapshot i o val s.snap s :=
    storesWithSnapshot_of_exec hx ((r2s_bankWrite_of_notMem s.model s.regs val s.snap ho).trans h.symm)
  exact ⟨hstores rfl (by decide), hstores rfl (by decide), hstores rfl (by decide), hstores rfl (by decide),
    hstores rfl (by decide)⟩

/-! ### The per-vane registers -/

theorem sup_vertical_iff (c : Config) (m : Model) (v : Vane) : sup c m .vertical v = true ↔ VerticalWritable m v := by
  cases m <;> simp [sup, vsup, VerticalWritable]

theorem sup_horizontal_iff (c : Config) (m : Model) (v : Vane) : sup c m .horizontal v = true ↔ HorizontalWritable c m v := by
  cases m <;> simp [sup, hsup, HorizontalWritable]

theorem stepsOk_of_configWf {c : Config} (h : configWf c = true) (m : Model) : stepsOk c m = true := by
  simp only [configWf, Bool.and_eq_true] at h
  obtain ⟨⟨⟨⟨⟨⟨⟨⟨⟨-, hoffice⟩, hhorizontal⟩, hvrf⟩, -⟩, -⟩, -⟩, -⟩, -⟩, -⟩ := h
  cases m
  · exact hoffice
  · exact hhorizontal
  · exact hvrf

/-- A supported vane has a position to take (spec/00_scope.md R7). -/
theorem one_le_steps {c : Config} (h : configWf c = true) {m : Model} {x : Axis} {v : Vane} (hs : sup c m x v = true) :
    1 ≤ (steps c m x).toNat := by
  have hv := List.all_eq_true.mp (stepsOk_of_configWf h m) v (mem_vanes v)
  simp only [Bool.and_eq_true, Bool.or_eq_true, Bool.not_eq_true', decide_eq_true_eq] at hv
  obtain ⟨hvert, hhoriz⟩ := hv
  cases x with
  | vertical => exact hvert.resolve_left (ne_false_of_eq_true hs)
  | horizontal => exact hhoriz.resolve_left (ne_false_of_eq_true hs)

theorem exec_vaneWrite (g : VaneGroup) (v : Vane) (val : U16) (s : State) :
    exec (vaneWrite g v val) s = .next (writeVane g v val s) := by
  cases g <;> fin_cases v <;> rfl

section
variable {g : VaneGroup} {v : Vane} (val : U16) {s : State}

theorem exec_vaneWrite_supported (hs : sup s.cfg s.model g.axis v = true) :
    exec (vaneWrite g v val) s = .next (writePlain (.vane g v) (vaneValue s.cfg s.model g val) s) := by
  rw [exec_vaneWrite, writeVane, if_pos hs]; rfl

theorem exec_vaneWrite_unsupported (hs : ¬sup s.cfg s.model g.axis v = true) :
    exec (vaneWrite g v val) s = ignored (.vaneUnsupported (objId (.vane g v))) s := by
  rw [exec_vaneWrite, writeVane, if_neg hs]; rfl

/-- A position is clamped, and R2S does not read it. -/
theorem vaneWrite_position (hg : g.kind = .position) (h : Consistent s) (hs : sup s.cfg s.model g.axis v = true) :
    StoresWithSnapshot (vaneWrite g v val) (.vane g v) (clamp val (steps s.cfg s.model g.axis)) s.snap s := by
  have hval : vaneValue s.cfg s.model g val = clamp val (steps s.cfg s.model g.axis) := by rw [vaneValue, hg]
  have hx := exec_vaneWrite_supported val hs
  rw [hval] at hx
  refine storesWithSnapshot_of_exec hx ?_
  rw [r2s_bankWrite_position _ _ hg, ← h]

theorem vane_mem_swingSet (hg : g.kind = .swing) (v : Vane) : .vane g v ∈ swingSet := by
  cases g with
  | vswg | xvswg | xhswg => revert v; decide
  | _ => cases hg

/-- A swing is stored as received, and R2S makes swing of it. -/
theorem vaneWrite_swing (hg : g.kind = .swing) (h : Consistent s) (hs : sup s.cfg s.model g.axis v = true) :
    StoresWithSnapshot (vaneWrite g v val) (.vane g v) val { s.snap with swing := swingAfter (.vane g v) val s } s := by
  have hval : vaneValue s.cfg s.model g val = val := by rw [vaneValue, hg]
  have hx := exec_vaneWrite_supported val hs
  rw [hval] at hx
  refine storesWithSnapshot_of_exec hx ?_
  rw [r2s_bankWrite_vane, ← h, swingOf_bankWrite_eq_swingAfter s val (vane_mem_swingSet hg v)]

end

/-- The point (0x01, 0x32 + v) is the vertical position's (spec/44_capability.md R169). -/
theorem status_xvpos (v : Vane) (s : State) : status 0x01 (BitVec.ofNat 8 (0x32 + vaneIndex v)) s = vanePoint .xvpos v s := by
  have hid : be16 0x01 (BitVec.ofNat 8 (0x32 + vaneIndex v)) = objId (.vane .xvpos v) := by revert v; decide
  show (match registryFind (be16 0x01 (BitVec.ofNat 8 (0x32 + vaneIndex v))) with
    | some (.vane g w) => vanePoint g w s
    | _ => capPoint _ s) = vanePoint .xvpos v s
  rw [hid, registryFind_objId (vane_mem_registry .xvpos v)]

/-- What WR.XVPOS[v] stores on a supported vane is what its point reads. -/
theorem status_of_exec_xvpos {v : Vane} {val : U16} {s t : State} (hs : sup s.cfg s.model VaneGroup.xvpos.axis v = true)
    (ht : exec (vaneWrite .xvpos v val) s = .next t) :
    status 0x01 (BitVec.ofNat 8 (0x32 + vaneIndex v)) t = clamp val (steps s.cfg s.model .vertical) := by
  rw [exec_vaneWrite_supported val hs] at ht
  cases ht
  rw [status_xvpos, vanePoint, writePlain_cfg, writePlain_model, if_pos hs, writePlain_regs, bankRead_bankWrite_same]; rfl

/-- Settles O19: by `vaneWrite_position` for both groups where the vane is supported, else by `exec_vaneWrite_unsupported`. -/
theorem verticalPositionWrites : Obligations.VerticalPositionWrites := by
  intro v val s hw h
  rw [← sup_vertical_iff s.cfg]
  refine ⟨fun hs => ?_, fun hs => ?_⟩
  · exact ⟨clamp val (steps s.cfg s.model .vertical), clamp_toNat (one_le_steps hw hs),
      vaneWrite_position (g := .vdir) val rfl h hs, vaneWrite_position (g := .xvpos) val rfl h hs,
      fun t ht => status_of_exec_xvpos hs ht⟩
  · exact ⟨exec_vaneWrite_unsupported (g := .vdir) val hs, exec_vaneWrite_unsupported (g := .xvpos) val hs⟩

/-- Settles O20: by `vaneWrite_position` where the vane is supported, else by `exec_vaneWrite_unsupported`. -/
theorem horizontalPositionWrites : Obligations.HorizontalPositionWrites := by
  intro v val s hw h
  rw [← sup_horizontal_iff]
  refine ⟨fun hs => ?_, fun hs => ?_⟩
  · exact ⟨clamp val (steps s.cfg s.model .horizontal), clamp_toNat (one_le_steps hw hs),
      vaneWrite_position (g := .xhpos) val rfl h hs⟩
  · exact exec_vaneWrite_unsupported (g := .xhpos) val hs

/-- Settles O21: by `vaneWrite_swing` where the vane is supported, else by `exec_vaneWrite_unsupported`. -/
theorem vaneSwingWrites : Obligations.VaneSwingWrites := by
  intro v val s h
  rw [← sup_vertical_iff s.cfg, ← sup_horizontal_iff]
  refine ⟨fun hs => ?_, fun hs => ?_, fun hs => ?_, fun hs => ?_⟩
  · exact ⟨vaneWrite_swing (g := .vswg) val rfl h hs, vaneWrite_swing (g := .xvswg) val rfl h hs⟩
  · exact ⟨exec_vaneWrite_unsupported (g := .vswg) val hs, exec_vaneWrite_unsupported (g := .xvswg) val hs⟩
  · exact vaneWrite_swing (g := .xhswg) val rfl h hs
  · exact exec_vaneWrite_unsupported (g := .xhswg) val hs

/-! ### Ids outside OBJ -/

section
variable {id : U16} (val : U16) {s : State}

theorem writeOther_of_notMem (h : id ∉ s.cfg.extraObj) : writeOther id val s = raise (.unknownObject id) s := if_neg h

theorem writePairs_unknown (hr : id ∉ registryIds) (hx : id ∉ s.cfg.extraObj) (q : List Byte) :
    writePairs ([hi8 id, lo8 id, hi8 val, lo8 val] ++ q) s = writePairs q (raise (.unknownObject id) s) := by
  show writePairs q (writeObj (be16 (hi8 id) (lo8 id)) (be16 (hi8 val) (lo8 val)) s) = _
  rw [be16_hi8_lo8, be16_hi8_lo8, writeObj_outside hr, writeOther_of_notMem val hx]

end

/-- Settles O22: the pair raises its diagnostic and the frame's other pairs and its ACK follow. -/
theorem unknownWriteIgnored : Obligations.UnknownWriteIgnored := by
  intro id val s hr hx
  refine ⟨congrArg _ (writeOther_of_notMem val hx), writePairs_unknown val hr hx, fun hframe a => ?_⟩
  have hlen : [hi8 id, lo8 id, hi8 val, lo8 val].length ≤ lenMax := Nat.le_of_ble_eq_true rfl
  have hpairs : writePairs [hi8 id, lo8 id, hi8 val, lo8 val] s = raise (.unknownObject id) s := writePairs_unknown val hr hx []
  rw [exec_cmd2_frame a _ hframe, guardLength_of_le hlen, hpairs, respondWith_ack]; rfl

/-! ### WRITE_OBJ -/

theorem objFind_of_registryFind {id : U16} {o : Obj} (h : registryFind id = some o) (extra : List U16) :
    objFind extra id = some o := by
  rw [objFind, h]

theorem objFind_of_notMem_registryIds {id : U16} (h : id ∉ registryIds) (extra : List U16) :
    objFind extra id = if id ∈ extra then some (.extra id) else none := by
  rw [objFind, registryFind_eq_none.mpr h]

/-- Settles O23: every pair is `writeObj`, which follows the register that OBJ has for the id. -/
theorem writeRowsFollowCommonRule : Obligations.WriteRowsFollowCommonRule := by
  intro id val s
  rw [exec_decodeObject]
  by_cases hr : id ∈ registryIds
  · obtain ⟨o, ho, rfl⟩ := List.mem_map.mp hr
    rw [objFind_of_registryFind (registryFind_objId ho)]
    cases o with
    | vane g v =>
      rw [writeObj_vane, writeVane]
      cases hs : sup s.cfg s.model g.axis v <;> simp only [hs] <;> rfl
    | extra e => exact absurd rfl (mem_registry.mp ho e)
    | _ => rw [writeObj_plain (by decide)]; rfl
  · rw [objFind_of_notMem_registryIds hr, writeObj_outside hr]
    rcases writeOther_cases id val s with ⟨hx, he⟩ | ⟨hx, he⟩ <;> rw [he]
    · rw [if_pos hx]; rfl
    · rw [if_neg hx]; rfl

end Sys2Proof.Machine
end

section
/-! What the wire and the host can reach: MODEL moves by SET_MODEL and RESET alone, a write over the wire stays within DeviceState, a
host operation within DeviceState and its own outputs (spec/10_state.md R19, spec/43_object_writes.md R157,
spec/45_state_sync.md R203). -/

namespace Sys2Proof.Machine

/-! ### MODEL -/

/-- Of the host operations SET_MODEL alone moves MODEL. -/
theorem exec_decodeHostOp_model {s t : State} {op idx : Byte} {arg : U16} (h : exec (decodeHostOp op idx arg) s = .next t) :
    t.model = s.model ∨ decodeHostOp op idx arg = .setModel idx arg := by
  by_cases hop : op = 0x07
  · exact .inr (by rw [hop]; rfl)
  left
  unfold decodeHostOp at h
  split at h
  case h_8 hk => exact absurd (eq_ofNat_of_toNat_eq hk) hop
  -- GET_STATE, SET_POWER, GET_CAPS and an operation code above 0x0C have one outcome, the others two.
  case h_1 | h_2 | h_9 | h_14 => cases h; rfl
  all_goals
    simp only [exec, execSetMode, execSetTemp, execSetFan, execSetSwing, execSetRoomTemp, execSetVvanePos, execSetVvaneSwing,
      execSetHvanePos, execSetHvaneSwing] at h
    split at h <;> cases h <;> simp only [acceptWrite_model, returnSnapshot_model, reject_model]

theorem DispatchFrame.model_eq {s t : State} (h : DispatchFrame s t) : t.model = s.model := by rw [h]

theorem scanStep_model (s : State) : (scanStep s).model = s.model := by
  cases hf : (scan s.buf).frame with
  | some f => rw [scanStep_found hf]
  | none => rw [scanStep_notFound hf]

theorem agentTurn_model (s : State) : (agentTurn s).model = s.model := by
  unfold agentTurn
  split
  case isFalse => rfl
  case isTrue =>
    rcases agentStep_cases s with he | ⟨-, he⟩ | ⟨a, rest, -, he⟩ | ⟨a, p0, p1, p2, p3, rest, -, he⟩ | ⟨a, rest, -, he⟩ |
        ⟨r, -, he⟩ <;> rw [he]
    case inr.inl => exact scanStep_model s
    case inr.inr.inr.inl => rw [readObject_frame]
    all_goals rfl

/-- Of the environment's events RESET alone moves MODEL. -/
theorem eventStep_model (e : Event) (s : State) : (eventStep e s).model = s.model ∨ ∃ id, e = .reset id := by
  cases e with
  | agent => exact .inl (agentTurn_model s)
  | reset id => exact .inr ⟨id, rfl⟩
  | host w => exact .inl rfl
  | chunk | timeout | transportFail | rebind | txFail =>
    left
    simp only [eventStep, chunkStep, timeoutEvent, transportFailStep, rebindStep, txFailStep]
    split <;> rfl

theorem internalStep_model (s : State) :
    (internalStep s).model = s.model ∨ ∃ id rest, s.env = .reset id :: rest := by
  rcases internalStep_cases s with he | ⟨e, rest, henv, -, he⟩ <;> rw [he]
  · exact .inl (agentTurn_model s)
  · exact (eventStep_model e { s with env := rest }).imp_right fun ⟨id, hid⟩ => ⟨id, rest, hid ▸ henv⟩

/-- A step that moves MODEL runs SET_MODEL or is a RESET (spec/10_state.md R19). -/
theorem step_model {s t : State} (h : step s = .next t) (hne : t.model ≠ s.model) :
    (∃ w rest idx arg, s.env = .host w :: rest ∧ decode (.host w) = .ok (.setModel idx arg)) ∨
      ∃ id rest, s.env = .reset id :: rest := by
  obtain ⟨-, ⟨c, u, i, hf, hd, hx⟩ | ⟨-, rfl⟩⟩ := step_cases h
  · rcases fetch_cases hf with ⟨w, rest, henv, rfl, rfl⟩ | hf | ⟨rest, -, hf⟩
    · cases hd
      have hset := (exec_decodeHostOp_model hx).resolve_left hne
      exact .inl ⟨w, rest, _, _, henv, congrArg Except.ok hset⟩
    · exact absurd (dispatchFrame_of_exec_fetchAgent hf hd hx).model_eq hne
    · exact absurd (dispatchFrame_of_exec_fetchAgent hf hd hx).model_eq hne
  · exact .inr ((internalStep_model s).resolve_left hne)

/-! ### The two ports -/

/-- A pair is applied within DeviceState. -/
theorem dispatchFrame_of_exec_pair {w : BitVec 32} {s t : State} (h : exec (decodePair w) s = .next t) : DispatchFrame s t := by
  rw [decodePair, exec_decodeObject] at h
  cases h
  rw [writeObj_frame]; rfl

/-- A CMD2 is applied within DeviceState and the agent's place, whether it begins its sections or runs to its response. -/
theorem dispatchFrame_of_exec_cmd2 {a : Addr} {p : List Byte} {s t : State} (h : exec (.cmd2 a p) s = .next t) :
    DispatchFrame s t := by
  obtain ⟨-, rfl⟩ := guardLength_eq_next.mp h
  split
  · rfl
  · exact dispatchFrame_respondWith 0x02 a [ackByte] (dispatchFrame_writePairs p s)

/-- What a write over the wire must leave alone (spec/43_object_writes.md R157). -/
theorem DispatchFrame.wire_bounds {s t : State} (h : DispatchFrame s t) :
    t.model = s.model ∧ profile t.cfg t.model = profile s.cfg s.model ∧ t.buf = s.buf ∧ t.persisted = s.persisted := by
  rw [h]
  exact ⟨rfl, rfl, rfl, rfl⟩

/-- What a host operation must leave alone (spec/45_state_sync.md R203). -/
theorem HostFrame.host_bounds {s t : State} (h : HostFrame s t) :
    t.tx = s.tx ∧ t.buf = s.buf ∧ t.link = s.link ∧ t.phase = s.phase ∧ t.entries = s.entries := by
  rw [h]
  exact ⟨rfl, rfl, rfl, rfl, rfl⟩

/-- Settles O44: `step_model` for MODEL, and the frames of a pair, of a CMD2 and of a host operation. -/
theorem portsKeepTheirBounds : Obligations.PortsKeepTheirBounds :=
  ⟨fun _ _ h hne => step_model h hne, fun _ _ _ h => (dispatchFrame_of_exec_pair h).wire_bounds,
    fun _ _ _ _ h => (dispatchFrame_of_exec_cmd2 h).wire_bounds, fun _ _ _ h => (hostFrame_of_exec h).host_bounds⟩

end Sys2Proof.Machine
end

section
/-! What the class/number points answer: STATUS class by class, the capability constants of a well-formed configuration, the cell
behind a per-vane number, and the register of OBJ that a readback point finds (spec/44_capability.md R165 to R172). -/

namespace Sys2Proof.Machine

/-! ### Entries -/

theorem next_answerPoint (cls num : Byte) (st : U16) (s : State) : .next (answerPoint cls num st s) = answered cls num st s := rfl

/-- A point adds the entry with its STATUS and does nothing else. -/
theorem exec_decodePoint_answered (cls num : Byte) (s : State) :
    exec (decodePoint cls num) s = answered cls num (status cls num s) s :=
  (exec_decodePoint cls num s).trans (next_answerPoint _ _ _ _)

/-! ### STATUS by class -/

theorem status_class0 (num : Byte) (s : State) : status 0x00 num s = protoPoint num s := rfl

theorem status_class10 (num : Byte) (s : State) : status 0x10 num s = regPoint 0x10 num s := rfl

theorem status_class11 (num : Byte) (s : State) : status 0x11 num s = regPoint 0x11 num s := rfl

/-- The number of a per-vane register answers its cell or the sentinel. -/
theorem status_class1_of_objId {num : Byte} {g : VaneGroup} {v : Vane} (h : objId (.vane g v) = be16 0x01 num) (s : State) :
    status 0x01 num s = vanePoint g v s := by
  have hf : registryFind (be16 0x01 num) = some (.vane g v) := h ▸ registryFind_objId (vane_mem_registry g v)
  rw [status, if_neg (by decide), if_pos rfl, hf]

theorem mem_populatedClasses {cls : Byte} : cls ∈ populatedClasses ↔ cls = 0x00 ∨ cls = 0x01 ∨ cls = 0x10 ∨ cls = 0x11 := by
  simp [populatedClasses]

/-- Settles O24: every point adds the entry with its STATUS, and STATUS is the rule's in each of the four populated classes and
outside them. -/
theorem queryRowsFollowStatus : Obligations.QueryRowsFollowStatus := by
  intro cls num s
  rw [exec_decodePoint_answered]
  congr 1
  by_cases hcls : cls ∈ populatedClasses
  · rcases mem_populatedClasses.mp hcls with rfl | rfl | rfl | rfl
    · exact status_class0 num s
    · rfl
    · exact status_class10 num s
    · exact status_class11 num s
  · rw [status_of_notMem hcls]
    simp only [mem_populatedClasses, not_or] at hcls
    obtain ⟨h0, h1, h10, h11⟩ := hcls
    rw [if_neg h0, if_neg h1, if_neg (not_or.mpr ⟨h10, h11⟩)]; rfl

/-! ### The rows with a parameter's value -/

theorem exec_qryProto (num : Byte) (s : State) : exec (.qryProto num) s = answered 0x00 num (protoPoint num s) s := rfl

theorem exec_qryCap01 (s : State) : exec .qryCap01 s = answered 0x01 0x01 (capPoint 0x01 s) s := rfl

theorem exec_qryCap (num : Byte) (s : State) : exec (.qryCap num) s = answered 0x01 num (capPoint num s) s := rfl

theorem exec_qryNone (cls num : Byte) (s : State) : exec (.qryNone cls num) s = answered cls num sentinel s := rfl

/-- Settles O25: a point without a cell answers its parameter, with the sentinel where that has no value. -/
theorem openPointQueries : Obligations.OpenPointQueries := fun cls num s =>
  ⟨exec_qryProto num s, exec_qryCap01 s, exec_qryCap num s, exec_qryNone cls num s⟩

theorem capConstOk_of_configWf {c : Config} (h : configWf c = true) : capConstOk c = true := by
  simp only [configWf, Bool.and_eq_true] at h
  obtain ⟨⟨⟨⟨⟨⟨-, hcap⟩, -⟩, -⟩, -⟩, -⟩, -⟩ := h
  exact hcap

/-- A well-formed configuration has the two points that the source fixes (spec/00_scope.md R7). -/
theorem capConst_fixed {c : Config} (h : configWf c = true) :
    capConst c .vrf 0x01 = some 0x0004 ∧ capConst c .office 0x01 = some 0x0000 := by
  have hcap := capConstOk_of_configWf h
  simp only [capConstOk, Bool.and_eq_true, beq_iff_eq] at hcap
  exact hcap.1

theorem capPoint_of_capConst {num : Byte} {s : State} {x : U16} (h : capConst s.cfg s.model num = some x) : capPoint num s = x := by
  rw [capPoint, h, Option.getD_some]

/-- Settles O26: the row answers CAPCONST, which a well-formed configuration has at both points. -/
theorem fixedPoints : Obligations.FixedPoints := by
  intro s hw
  obtain ⟨hvrf, hoffice⟩ := capConst_fixed hw
  rw [exec_qryCap01]
  constructor <;> intro hm
  · rw [capPoint_of_capConst (hm ▸ hvrf)]
  · rw [capPoint_of_capConst (hm ▸ hoffice)]

/-! ### The per-vane points -/

/-- The register of each of the twelve rows has the id 0x0100 + number. -/
theorem objId_of_mem_vanePoints : ∀ e ∈ vanePoints, objId (.vane e.2.2.1 e.2.2.2) = be16 0x01 e.2.1 := by decide

/-- Each of the twelve rows is the one that its number in class 0x01 decodes to. -/
theorem decodePoint_of_mem_vanePoints : ∀ e ∈ vanePoints, decodePoint 0x01 e.2.1 = e.1 := by decide

/-- Settles O27: each row is the point of its number, whose STATUS is the cell with the id of that number. -/
theorem vanePointQueries : Obligations.VanePointQueries := by
  intro e he s
  have hid := objId_of_mem_vanePoints e he
  refine ⟨hid, ?_⟩
  rw [← decodePoint_of_mem_vanePoints e he, exec_decodePoint_answered, status_class1_of_objId hid]; rfl

/-! ### Readback -/

theorem exec_qryReg (num : Byte) (s : State) : exec (.qryReg num) s = answered 0x10 num (regPoint 0x10 num s) s := rfl

theorem exec_qryEcon (num : Byte) (s : State) : exec (.qryEcon num) s = answered 0x11 num (regPoint 0x11 num s) s := rfl

/-- OBJ has no register exactly for the ids that none of its registers has. -/
theorem objFind_eq_none {c : Config} (hw : configWf c = true) {id : U16} :
    objFind c.extraObj id = none ↔ ∀ o, Holds c o → objId o ≠ id := by
  simp only [Option.eq_none_iff_forall_ne_some, ne_eq, objFind_eq_some hw, not_and]

section
variable {cls num : Byte} {s : State} (hw : configWf s.cfg = true)
include hw

theorem regPoint_register {o : Obj} (ho : Holds s.cfg o) (hid : objId o = be16 cls num) :
    regPoint cls num s = bankRead s.regs o := by
  rw [regPoint, (objFind_eq_some hw).mpr ⟨ho, hid⟩]

theorem regPoint_hole (h : ∀ o, Holds s.cfg o → objId o ≠ be16 cls num) : regPoint cls num s = sentinel := by
  rw [regPoint, (objFind_eq_none hw).mpr h]

end

/-- Settles O28: both rows are `regPoint`, by what OBJ finds for the id; ECON is the register 0x1100. -/
theorem readbackQueries : Obligations.ReadbackQueries := by
  intro num s hw
  have hecon : regPoint 0x11 0x00 s = s.regs.econ := regPoint_register hw (.inl (by decide : Obj.econ ∈ registry)) (by decide)
  simp only [exec_qryReg, exec_qryEcon, hecon]
  refine ⟨fun o ho hid => ?_, fun h => ?_, trivial, fun o ho hid => ?_, fun h => ?_⟩
  · rw [regPoint_register hw ho hid]
  · rw [regPoint_hole hw h]; rfl
  · rw [regPoint_register hw ho hid]
  · rw [regPoint_hole hw h]; rfl

end Sys2Proof.Machine
end

section
/-! The two sides of DeviceState held in step: R2S is a fixed point after one recomputation, every host operation returns the
snapshot it leaves or is rejected, and each host setter stores one value and moves the one snapshot field that goes with it
(spec/45_state_sync.md R185 to R204). -/

namespace Sys2Proof.Machine

/-! ### Consistency -/

/-- Settles O43: every field of R2S is a value of the registers or falls back on itself. -/
theorem recomputationIsIdempotent : Obligations.RecomputationIsIdempotent := r2s_r2s

/-- A snapshot that R2S has made, of whatever snapshot before it, is consistent. -/
theorem consistent_of_r2s {s : State} {S : Snapshot} (h : s.snap = r2s s.model s.regs S) : Consistent s := by
  rw [Consistent, h, r2s_r2s]

theorem consistent_writeObj {s : State} (id val : U16) (h : Consistent s) : Consistent (writeObj id val s) := by
  rcases writeObj_cases id val s with ⟨o, x, -, he⟩ | ⟨c, he⟩ <;> rw [he]
  · exact consistent_of_r2s (writePlain_snap s o x)
  · exact h

/-- Settles O42: a pair is `writeObj`, a host operation word one `HostSection`. -/
theorem sectionsKeepConsistency : Obligations.SectionsKeepConsistency := by
  refine ⟨fun w s h => ?_, fun w s h => ?_⟩
  · exact ⟨_, exec_decodeObject _ _ s, consistent_writeObj _ _ h⟩
  · obtain ⟨t, ht, hsnap, -, -⟩ := exec_decodeHostOp_section h (w.extractLsb' 24 8) (w.extractLsb' 16 8) (w.extractLsb' 0 16)
    exact ⟨t, ht, consistent_of_r2s hsnap⟩

/-! ### The outcomes of a host operation -/

/-- Whatever its code, a host operation is GET_CAPS, or is accepted and returns the snapshot it leaves, or is rejected. -/
theorem exec_decodeHostOp_cases (op idx : Byte) (arg : U16) (s : State) :
    op = 0x08 ∨ (∃ u, exec (decodeHostOp op idx arg) s = .next (returnSnapshot u) ∧ u.returned = s.returned ∧ u.diag = s.diag) ∨
      exec (decodeHostOp op idx arg) s = rejected op idx arg s := by
  unfold decodeHostOp
  split
  case h_9 hk => exact .inl (eq_ofNat_of_toNat_eq hk)
  case h_14 => exact .inr (.inr rfl)
  all_goals
    rename_i hk
    obtain rfl := eq_ofNat_of_toNat_eq hk
    right
  -- GET_STATE, SET_POWER and SET_SWING are always accepted, the others may be rejected.
  case h_1 | h_2 => exact .inl ⟨_, rfl, rfl, rfl⟩
  case h_6 =>
    simp only [exec, execSetSwing]
    split <;> exact .inl ⟨_, rfl, rfl, rfl⟩
  all_goals
    simp only [exec, execSetMode, execSetTemp, execSetFan, execSetRoomTemp, execSetModel, execSetVvanePos, execSetVvaneSwing,
      execSetHvanePos, execSetHvaneSwing]
    split
    · exact .inl ⟨_, rfl, rfl, rfl⟩
    · exact .inr rfl

/-- Settles O38: `exec_decodeHostOp_cases`, and the codes above 0x0C decode to HOST.INVALID. -/
theorem hostOutcomes : Obligations.HostOutcomes := by
  intro op idx arg s
  refine ⟨?_, rfl, fun hop => ?_⟩
  · rcases exec_decodeHostOp_cases op idx arg s with rfl | ⟨u, he, hreturned, hdiag⟩ | he
    · exact ⟨_, rfl, .inl rfl, .inl rfl⟩
    · exact ⟨_, he, .inr (by rw [returnSnapshot_returned, hreturned]; rfl), .inl hdiag⟩
    · exact ⟨_, he, .inr rfl, .inr he⟩
  · rw [← decodeHostOp_outside hop]
    exact decode_hostOf op idx arg

/-! ### The getters -/

/-- A table made of a function of the vane, written out. -/
theorem perVane_ofFn {α : Type} (f : Vane → α) : Vector.ofFn f = #v[f 0, f 1, f 2, f 3] := rfl

/-- Settles O29: GET_CAPS returns the profile, whose two per-vane tables `perVane_ofFn` writes out. -/
theorem hostGetters : Obligations.HostGetters := by
  intro idx arg s
  refine ⟨rfl, ?_⟩
  rw [← perVane_ofFn (vsup s.model), ← perVane_ofFn (hsup s.cfg s.model)]; rfl

/-! ### One register stored -/

theorem hostStores_of_exec {i : Instr} {o : Obj} {x : U16} {snap : Snapshot} {s : State}
    (h : exec i s = .next (acceptWrite o x snap s)) : HostStores i o x snap s :=
  ⟨_, h, ⟨bankRead_bankWrite_same s.regs o x, fun _ hne => bankRead_bankWrite_other s.regs x hne⟩, rfl, rfl⟩

theorem isOn_eq (arg : U16) : isOn arg = decide (arg ≠ 0) := by
  rw [Bool.eq_iff_iff, isOn, bne_iff_ne, decide_eq_true_iff]

theorem onOff_isOn (arg : U16) : onOff (isOn arg) = if arg = 0 then 0 else 1 := by
  by_cases h : arg = 0
  · rw [h]; rfl
  · rw [if_neg h, onOff, isOn_eq, if_pos (decide_eq_true h)]

/-- Settles O30: the one outcome of SET_POWER, with its operand read as on or off. -/
theorem setPower : Obligations.SetPower := by
  intro idx arg s
  rw [← onOff_isOn, ← isOn_eq]
  exact hostStores_of_exec rfl

section
variable {idx : Byte} {arg : U16} {s : State}

theorem hostStores_setMode {m : HvacMode} (h : modeOf arg = some m) :
    HostStores (.setMode idx arg) .mode arg { s.snap with mode := m } s :=
  hostStores_of_exec (by rw [exec, execSetMode, h])

theorem exec_setMode_rejected (h : modeOf arg = none) : exec (.setMode idx arg) s = rejected 0x02 idx arg s := by
  rw [exec, execSetMode, h]; rfl

theorem hostStores_setFan {f : FanSpeed} (h : fanOf arg = some f) :
    HostStores (.setFan idx arg) .fan arg { s.snap with fan := f } s :=
  hostStores_of_exec (by rw [exec, execSetFan, h])

theorem exec_setFan_rejected (h : fanOf arg = none) : exec (.setFan idx arg) s = rejected 0x04 idx arg s := by
  rw [exec, execSetFan, h]; rfl

end

/-- Settles O31: both setters follow `MODE_OF` and `FAN_OF`, code by code. -/
theorem setModeAndFan : Obligations.SetModeAndFan := by
  intro idx arg s
  constructor
  · split
    case h_6 => exact exec_setMode_rejected (by simp only [modeOf])
    all_goals
      next h => exact hostStores_setMode (by rw [modeOf, h]; rfl)
  · split
    case h_6 => exact exec_setFan_rejected (by simp only [fanOf])
    all_goals
      next h => exact hostStores_setFan (by rw [fanOf, h]; rfl)

theorem setpointAccepted_iff {m : HvacMode} {arg : U16} :
    setpointAccepted m arg = true ↔ (if m = .cool then 180 else 160) ≤ arg.toNat ∧ arg.toNat ≤ 300 := by
  rw [setpointAccepted, Bool.and_eq_true, decide_eq_true_iff, decide_eq_true_iff]
  cases m <;> rfl

/-- Settles O32: `setpointAccepted_iff` has the range of the snapshot's mode. -/
theorem setTemp : Obligations.SetTemp := by
  intro idx arg s
  by_cases h : setpointAccepted s.snap.mode arg = true
  · rw [if_pos (setpointAccepted_iff.mp h)]
    exact hostStores_of_exec (if_pos h)
  · rw [if_neg (mt setpointAccepted_iff.mpr h)]
    exact if_neg h

theorem roomAccepted_iff {t : Int} : roomAccepted t = true ↔ -5000 ≤ t ∧ t ≤ 8000 := by
  rw [roomAccepted, Bool.and_eq_true, decide_eq_true_iff, decide_eq_true_iff]; rfl

/-- An accepted temperature plus 5000 is no negative number, so its register value is that of the signed sum. -/
theorem roomRegister_eq {t : Int} (h : -5000 ≤ t) : roomRegister t = BitVec.ofInt 16 (t + 5000) := by
  have hsum : ((t + 5000).toNat : Int) = t + 5000 := Int.toNat_of_nonneg (by omega)
  rw [← hsum, BitVec.ofInt_natCast]; rfl

/-- Settles O34: `roomAccepted_iff` has the range, `roomRegister_eq` the value stored. -/
theorem setRoomTemp : Obligations.SetRoomTemp := by
  intro idx arg s
  by_cases h : roomAccepted arg.toInt = true
  · have hrange := roomAccepted_iff.mp h
    rw [if_pos hrange, ← roomRegister_eq hrange.1]
    exact hostStores_of_exec (if_pos h)
  · rw [if_neg (mt roomAccepted_iff.mpr h)]
    exact if_neg h

/-- Settles O33: on is one register stored, off is `bankRead_bankWriteAll` on SWINGSET. -/
theorem setSwing : Obligations.SetSwing := by
  intro idx arg s
  have hon : isOn arg = true ↔ arg ≠ 0 := by rw [isOn_eq, decide_eq_true_iff]
  refine ⟨fun h => hostStores_of_exec (if_pos (hon.mpr h)), fun h => ?_⟩
  exact ⟨_, if_neg (mt hon.mp (not_not.mpr h)), fun o => bankRead_bankWriteAll s.regs swingSet o 0, rfl, rfl⟩

/-! ### SET_MODEL -/

theorem mem_vaneRegistry {o : Obj} : o ∈ vaneRegistry ↔ ∃ g v, o = .vane g v := by
  constructor
  · intro h
    cases o with
    | vane g v => exact ⟨g, v, rfl⟩
    | extra id => exact absurd rfl (mem_registry.mp (List.mem_append_right _ h) id)
    | _ => exact absurd h (by decide)
  · rintro ⟨g, v, rfl⟩
    cases g <;> revert v <;> decide

theorem bankRead_vane_bankWriteAll_vaneRegistry (b : Bank) (g : VaneGroup) (v : Vane) :
    bankRead (bankWriteAll b vaneRegistry 0) (.vane g v) = 0 := by
  rw [bankRead_bankWriteAll, if_pos (mem_vaneRegistry.mpr ⟨g, v, rfl⟩)]

theorem bankRead_bankWriteAll_vaneRegistry_of_ne (b : Bank) {o : Obj} (h : ∀ g v, o ≠ .vane g v) :
    bankRead (bankWriteAll b vaneRegistry 0) o = bankRead b o := by
  rw [bankRead_bankWriteAll, if_neg fun hm => by obtain ⟨g, v, rfl⟩ := mem_vaneRegistry.mp hm; exact h g v rfl]

/-- With the per-vane registers at 0 the two global swing registers alone decide swing. -/
theorem swingOf_bankWriteAll_vaneRegistry (b : Bank) :
    swingOf (bankWriteAll b vaneRegistry 0) = decide (b.vswgG ≠ 0 ∨ b.hswgG ≠ 0) := by
  have hv : bankRead (bankWriteAll b vaneRegistry 0) .vswgG = b.vswgG := bankRead_bankWriteAll_vaneRegistry_of_ne b (by simp)
  have hh : bankRead (bankWriteAll b vaneRegistry 0) .hswgG = b.hswgG := bankRead_bankWriteAll_vaneRegistry_of_ne b (by simp)
  rw [Bool.eq_iff_iff, swingOf_eq_true, decide_eq_true_iff]
  constructor
  · rintro ⟨o, ho, hne⟩
    by_cases hvane : o ∈ vaneRegistry
    · rw [bankRead_bankWriteAll, if_pos hvane] at hne
      exact absurd rfl hne
    · have hglobal : ∀ o ∈ swingSet, o ∉ vaneRegistry → o = .vswgG ∨ o = .hswgG := by decide
      rcases hglobal o ho hvane with rfl | rfl
      · exact .inl (hv ▸ hne)
      · exact .inr (hh ▸ hne)
  · rintro (hne | hne)
    · exact ⟨.vswgG, by decide, hv.symm ▸ hne⟩
    · exact ⟨.hswgG, by decide, hh.symm ▸ hne⟩

/-- Clearing the per-vane registers under a new model moves model and swing alone. -/
theorem r2s_bankWriteAll_vaneRegistry (m m' : Model) (b : Bank) (S : Snapshot) :
    r2s m' (bankWriteAll b vaneRegistry 0) S =
      { r2s m b S with model := m', swing := decide (b.vswgG ≠ 0 ∨ b.hswgG ≠ 0) } := by
  have hkept (o : Obj) (h : ∀ g v, o ≠ .vane g v) : bankRead (bankWriteAll b vaneRegistry 0) o = bankRead b o :=
    bankRead_bankWriteAll_vaneRegistry_of_ne b h
  have honoff : (bankWriteAll b vaneRegistry 0).onoff = b.onoff := hkept .onoff (by simp)
  have hmode : (bankWriteAll b vaneRegistry 0).mode = b.mode := hkept .mode (by simp)
  have hsetpt : (bankWriteAll b vaneRegistry 0).setpt = b.setpt := hkept .setpt (by simp)
  have hfan : (bankWriteAll b vaneRegistry 0).fan = b.fan := hkept .fan (by simp)
  have hroomt : (bankWriteAll b vaneRegistry 0).roomt = b.roomt := hkept .roomt (by simp)
  simp only [r2s, powerOf, swingOf_bankWriteAll_vaneRegistry, honoff, hmode, hsetpt, hfan, hroomt]

theorem exec_setModel_of_modelId {m : Model} {idx : Byte} {arg : U16} (h : modelId m = arg.toNat) (s : State) :
    exec (.setModel idx arg) s =
      .next (returnSnapshot (persist m (resync { s with model := m, regs := bankWriteAll s.regs vaneRegistry 0 }))) := by
  rw [exec, execSetModel, modelOfId_eq_some.mpr h]

/-- Settles O35: the per-vane registers are cleared, and R2S of the consistent snapshot moves model and swing alone. -/
theorem setModel : Obligations.SetModel := by
  intro idx arg s h
  refine ⟨fun m hm => ?_, fun hm => ?_⟩
  · refine ⟨_, exec_setModel_of_modelId hm s, bankRead_vane_bankWriteAll_vaneRegistry s.regs,
      fun o ho => bankRead_bankWriteAll_vaneRegistry_of_ne s.regs ho, ?_⟩
    have hsnap : r2s m (bankWriteAll s.regs vaneRegistry 0) s.snap =
        { s.snap with model := m, swing := decide (s.regs.vswgG ≠ 0 ∨ s.regs.hswgG ≠ 0) } := by
      rw [r2s_bankWriteAll_vaneRegistry s.model, ← h]
    rw [← hsnap]; rfl
  · have hnone : modelOfId arg.toNat = none :=
      Option.eq_none_iff_forall_ne_some.mpr fun m he => hm m (modelOfId_eq_some.mp he)
    rw [exec, execSetModel, hnone]; rfl

/-! ### The per-vane setters -/

theorem vaneArg_eq_none {c : Config} {m : Model} {x : Axis} {idx : Byte} :
    vaneArg c m x idx = none ↔ ∀ v, vaneIndex v = idx.toNat → ¬sup c m x v = true := by
  simp only [Option.eq_none_iff_forall_ne_some, ne_eq, vaneArg_eq_some, not_and]

section
variable {i : Instr} {g : VaneGroup} {v : Vane} {arg : U16} {s : State}

/-- A setter that stores the clamped position stores one of 1 up to the step count. -/
theorem hostStores_position (hw : configWf s.cfg = true) (hs : sup s.cfg s.model g.axis v = true)
    (h : exec i s = .next (acceptWrite (.vane g v) (clamp arg (steps s.cfg s.model g.axis)) s.snap s)) :
    ∃ x : U16, x.toNat = min (max arg.toNat 1) (steps s.cfg s.model g.axis).toNat ∧ HostStores i (.vane g v) x s.snap s :=
  ⟨_, clamp_toNat (one_le_steps hw hs), hostStores_of_exec h⟩

/-- A setter that stores on or off in a swing register recomputes swing over SWINGSET. -/
theorem hostStores_vaneSwing (hg : g.kind = .swing)
    (h : exec i s = .next (acceptWrite (.vane g v) (onOff (isOn arg))
      { s.snap with swing := swingOf (bankWrite s.regs (.vane g v) (onOff (isOn arg))) } s)) :
    HostStores i (.vane g v) (if arg = 0 then 0 else 1)
      { s.snap with swing := swingAfter (.vane g v) (if arg = 0 then 0 else 1) s } s := by
  rw [swingOf_bankWrite_eq_swingAfter s _ (vane_mem_swingSet hg v), onOff_isOn] at h
  exact hostStores_of_exec h

end

/-- Settles O36: `vaneArg` gives the vane exactly where the model supports it on the vertical axis. -/
theorem setVerticalVane : Obligations.SetVerticalVane := by
  intro idx arg s hw
  simp only [← sup_vertical_iff s.cfg]
  refine ⟨fun v hv hs => ?_, fun h => ?_⟩
  · have harg : vaneArg s.cfg s.model .vertical idx = some v := vaneArg_eq_some.mpr ⟨hv, hs⟩
    exact ⟨hostStores_position (g := .vdir) hw hs (by rw [exec, execSetVvanePos, harg]; rfl),
      hostStores_vaneSwing rfl (by rw [exec, execSetVvaneSwing, harg])⟩
  · have harg : vaneArg s.cfg s.model .vertical idx = none := vaneArg_eq_none.mpr h
    constructor
    · rw [exec, execSetVvanePos, harg]; rfl
    · rw [exec, execSetVvaneSwing, harg]; rfl

/-- Settles O37: `vaneArg` gives the vane exactly where the model supports it on the horizontal axis. -/
theorem setHorizontalVane : Obligations.SetHorizontalVane := by
  intro idx arg s hw
  simp only [← sup_horizontal_iff]
  refine ⟨fun v hv hs => ?_, fun h => ?_⟩
  · have harg : vaneArg s.cfg s.model .horizontal idx = some v := vaneArg_eq_some.mpr ⟨hv, hs⟩
    exact ⟨hostStores_position (g := .xhpos) hw hs (by rw [exec, execSetHvanePos, harg]; rfl),
      hostStores_vaneSwing rfl (by rw [exec, execSetHvaneSwing, harg])⟩
  · have harg : vaneArg s.cfg s.model .horizontal idx = none := vaneArg_eq_none.mpr h
    constructor
    · rw [exec, execSetHvanePos, harg]; rfl
    · rw [exec, execSetHvaneSwing, harg]; rfl

end Sys2Proof.Machine
end

section
/-! No state that meets the invariant stops: whatever word its next step fetches decodes, and its instruction answers with a next
state, so neither refusal of spec/42_dispatch.md R132 is ever raised (spec/60_exceptions.md R205). -/

namespace Sys2Proof.Machine

/-! ### A frame that decodes is dispatched -/

/-- The decoder has tested the payload's length, so what it answers is well formed. -/
theorem wf_of_decodeFrame {f : List Byte} {i : Instr} (h : decodeFrame f = .ok i) : i.wf = true := by
  unfold decodeFrame at h
  split at h
  case h_2 => cases h
  case h_1 c a1 a2 a3 n body =>
    split at h
    · cases h
    next hmax =>
    split at h
    · cases h
    have hlen : lenOk (body.take n.toNat) = true :=
      decide_eq_true ((List.length_take_le _ _).trans (Nat.not_lt.mp hmax))
    exact (encodes_decodeCommand hlen h).1

/-- A command that the decoder answers has a payload within LEN_MAX, so its meaning does not refuse it (R132). -/
theorem exec_decodeFrame_next {f : List Byte} {i : Instr} (h : decodeFrame f = .ok i) (s : State) : ∃ t, exec i s = .next t := by
  have hwf := wf_of_decodeFrame h
  have hguard {p : List Byte} (hp : lenOk p = true) (t : State) : guardLength p t = .next t :=
    guardLength_of_le (of_decide_eq_true hp) t
  obtain ⟨a, p, rfl | rfl | rfl | rfl | rfl⟩ := decodeFrame_cases h
  case inr.inl | inr.inr.inl => exact ⟨_, hguard hwf _⟩
  all_goals
    obtain ⟨hp, -⟩ := Bool.and_eq_true_iff.mp hwf
    exact ⟨_, hguard hp _⟩

theorem exists_decodeFrame_of_deliverable {f : List Byte} (h : deliverable f = true) : ∃ i, decodeFrame f = .ok i := by
  obtain ⟨-, hok⟩ := Bool.and_eq_true_iff.mp h
  cases hd : decodeFrame f with
  | ok i => exact ⟨i, rfl⟩
  | error e => rw [hd] at hok; cases hok

/-! ### Every word fetched runs -/

/-- The word decodes and its instruction, run from the state, has a next state. -/
def Runs (c : Code) (u : State) : Prop := ∃ i t, decode c = .ok i ∧ exec i u = .next t

theorem runs_frame {f : List Byte} (h : deliverable f = true) (u : State) : Runs (.frame f) u := by
  obtain ⟨i, hi⟩ := exists_decodeFrame_of_deliverable h
  obtain ⟨t, ht⟩ := exec_decodeFrame_next hi u
  exact ⟨i, t, hi, ht⟩

theorem runs_pair (w : BitVec 32) (u : State) : Runs (.pair w) u := ⟨decodePair w, _, rfl, exec_decodeObject _ _ u⟩

theorem runs_clsnum (w : BitVec 16) (u : State) : Runs (.clsnum w) u := ⟨decodeClsnum w, _, rfl, exec_decodePoint _ _ u⟩

theorem runs_host (w : BitVec 32) (u : State) : Runs (.host w) u := by
  obtain ⟨⟨t, ht, -⟩, -⟩ := hostOutcomes (w.extractLsb' 24 8) (w.extractLsb' 16 8) (w.extractLsb' 0 16) u
  exact ⟨decodeHost w, t, rfl, ht⟩

/-- What the agent fetches runs: the invariant keeps the frame it holds deliverable, and a pair or a point always has a meaning. -/
theorem runs_of_fetchAgent {s u : State} {c : Code} (h : BlockInvariant s) (hf : fetchAgent s = some (c, u)) : Runs c u := by
  obtain ⟨-, ⟨f, hph, rfl, rfl⟩ | ⟨a, p0, p1, p2, p3, rest, -, rfl, -⟩ | ⟨a, q0, q1, rest, -, rfl, -⟩⟩ := fetchAgent_cases hf
  · have hp := phaseOk_of_blockInvariant h
    rw [hph] at hp
    obtain ⟨hdeliverable, -⟩ := phaseOk_dispatching.mp hp
    exact runs_frame hdeliverable u
  · exact runs_pair _ u
  · exact runs_clsnum _ u

theorem runs_of_fetch {s u : State} {c : Code} (h : BlockInvariant s) (hf : fetch s = some (c, u)) : Runs c u := by
  rcases fetch_cases hf with ⟨w, rest, -, rfl, -⟩ | hf | ⟨rest, -, hf⟩
  · exact runs_host w u
  · exact runs_of_fetchAgent h hf
  · exact runs_of_fetchAgent (s := { s with env := rest }) h hf

/-! ### Every step -/

theorem step_eq_internalStep {s : State} (hw : configWf s.cfg = true) (hf : fetch s = none) : step s = .next (internalStep s) := by
  simp [step, hw, hf]

/-- Settles O41: the word the step fetches runs (`runs_of_fetch`), and without a word the step is internal, which is never refused. -/
theorem invariantStatesNeverStop : Obligations.InvariantStatesNeverStop := by
  intro s h
  obtain ⟨hw, -⟩ := blockInvariant_iff.mp h
  match hf : fetch s with
  | some (c, u) =>
    obtain ⟨i, t, hd, ht⟩ := runs_of_fetch h hf
    exact ⟨t, (step_eq_exec hw hf hd).trans ht⟩
  | none => exact ⟨internalStep s, step_eq_internalStep hw hf⟩

end Sys2Proof.Machine
end

section
/-! TRANSPORT_FAIL, REBIND and the block while LINK is UNBOUND: what each event leaves, and what it does not reach
(spec/60_exceptions.md R215, R216, spec/10_state.md R32). -/

namespace Sys2Proof.Machine

section
variable {s : State} {e : Event} {rest : List Event}

/-! ### An event that acts at once -/

/-- An event that does not wait and brings no instruction is the whole step. -/
theorem step_eventStep (hw : configWf s.cfg = true) (he : s.env = e :: rest) (hd : defers e s = false) (hf : fetch s = none) :
    step s = .next (eventStep e { s with env := rest }) := by
  simp [step_eq_internalStep hw hf, internalStep, he, hd]

/-- While UNBOUND no event waits for the agent. -/
theorem defers_unbound (hl : s.link = .unbound) (e : Event) : defers e s = false := by
  simp [defers, hl]

/-! ### TRANSPORT_FAIL -/

theorem defers_transportFail (hl : s.link = .bound) : defers .transportFail s = inDispatch s.phase := by
  simp [defers, hl]

/-- TRANSPORT_FAIL waits only for a dispatch under way, and there is none while UNBOUND (notes/assumptions/8.md). -/
theorem defers_transportFail_eq_false (h : s.link = .unbound ∨ inDispatch s.phase = false) : defers .transportFail s = false := by
  cases hl : s.link with
  | unbound => exact defers_unbound hl _
  | bound => exact (defers_transportFail hl).trans (h.resolve_left (by simp [hl]))

theorem step_transportFail (hw : configWf s.cfg = true) (he : s.env = .transportFail :: rest)
    (hd : defers .transportFail s = false) : step s = .next (transportFailStep { s with env := rest }) :=
  step_eventStep hw he hd (by simp [fetch, he, hd])

/-- TRANSPORT_FAIL unbinds and stops the agent where it is; a response lost with it is a diagnostic only (notes/assumptions/9.md). -/
theorem transportFailStep_frame (s : State) :
    transportFailStep s =
      { s with link := .unbound, phase := .reading, entries := [], diag := (transportFailStep s).diag } := by
  unfold transportFailStep
  split <;> rfl

/-! ### REBIND -/

theorem step_rebind (hw : configWf s.cfg = true) (he : s.env = .rebind :: rest) :
    step s = .next (rebindStep { s with env := rest }) := by
  have hd : defers .rebind s = false := by simp [defers]
  exact step_eventStep hw he hd (by simp [fetch, he, hd])

/-! ### While UNBOUND -/

theorem fetchAgent_unbound (hl : s.link = .unbound) : fetchAgent s = none := by
  simp [fetchAgent, hl]

theorem agentTurn_unbound (hl : s.link = .unbound) : agentTurn s = s := if_neg (by simp [hl])

theorem step_unbound_noEvent (hw : configWf s.cfg = true) (he : s.env = []) (hl : s.link = .unbound) : step s = .next s := by
  have hf : fetch s = none := by simp only [fetch, he, fetchAgent_unbound hl]
  simp only [step_eq_internalStep hw hf, internalStep, he, agentTurn_unbound hl]

/-- The events that reach the agent alone: its own turn, those of READ, and the writer's failure at its TX. -/
def ReachesAgentOnly (e : Event) : Prop := e = .agent ∨ (∃ c, e = .chunk c) ∨ e = .timeout ∨ e = .txFail

theorem fetch_unbound (hl : s.link = .unbound) (he : s.env = e :: rest) (ha : ReachesAgentOnly e) : fetch s = none := by
  have hd := defers_unbound hl e
  obtain rfl | ⟨c, rfl⟩ | rfl | rfl := ha
  case inl => simp [fetch, he, fetchAgent_unbound (s := { s with env := rest }) hl]
  all_goals simp [fetch, he, hd]

theorem eventStep_unbound (hl : s.link = .unbound) (ha : ReachesAgentOnly e) : eventStep e s = s := by
  obtain rfl | ⟨c, rfl⟩ | rfl | rfl := ha
  · exact agentTurn_unbound hl
  · exact if_neg (by simp [hl])
  · exact if_neg (by simp [hl])
  · simp only [eventStep, txFailStep, hl]

/-- What reaches the agent alone reaches nobody while UNBOUND: it is taken off the events and dropped (notes/assumptions/7.md). -/
theorem step_unbound (hw : configWf s.cfg = true) (hl : s.link = .unbound) (he : s.env = e :: rest) (ha : ReachesAgentOnly e) :
    step s = .next { s with env := rest } := by
  rw [step_eventStep hw he (defers_unbound hl e) (fetch_unbound hl he ha), eventStep_unbound (s := { s with env := rest }) hl ha]

end

/-! ### The agent's turn keeps the link -/

theorem DispatchFrame.link_eq {s t : State} (h : DispatchFrame s t) : t.link = s.link := by rw [h]

theorem scanStep_link (s : State) : (scanStep s).link = s.link := by
  cases hf : (scan s.buf).frame with
  | some f => rw [scanStep_found hf]
  | none => rw [scanStep_notFound hf]

theorem agentStep_link (s : State) : (agentStep s).link = s.link := by
  rcases agentStep_cases s with he | ⟨-, he⟩ | ⟨a, rest, -, he⟩ | ⟨a, p0, p1, p2, p3, rest, -, he⟩ | ⟨a, rest, -, he⟩ |
      ⟨r, -, he⟩ <;> rw [he]
  case inr.inl => exact scanStep_link s
  case inr.inr.inr.inl => rw [readObject_frame]
  all_goals rfl

/-- Whether it runs an instruction or not, the agent neither binds nor unbinds (spec/10_state.md R32). -/
theorem step_link_of_agentTurn {s u t : State} (ht : AgentTurn s u) (h : step s = .next t) : t.link = .bound := by
  obtain ⟨-, ⟨c, v, i, hf, hd, hx⟩ | ⟨-, rfl⟩⟩ := step_cases h
  · exact (dispatchFrame_of_exec_fetchAgent ((fetch_of_agentTurn ht).symm.trans hf) hd hx).link_eq.trans ht.link_bound
  · rw [internalStep_of_agentTurn ht, agentStep_link, ht.link_bound]

/-- Settles O48: TRANSPORT_FAIL acts at once or leaves the agent its turn, by `defers_transportFail`; REBIND always acts at once;
while UNBOUND the agent has no step (`step_unbound`). -/
theorem linkEvents : Obligations.LinkEvents := by
  refine ⟨fun s rest hw he hcan => ?fail, fun s t rest he hl hdisp hstep => ?waits, fun s rest hw he hl => ?rebind,
    fun s rest hw he hl => ?rebindBound, fun s hw he hl => step_unbound_noEvent hw he hl,
    fun s e rest hw hl he ha => step_unbound hw hl he ha⟩
  case fail =>
    refine ⟨_, step_transportFail hw he (defers_transportFail_eq_false hcan), ?_⟩
    rw [transportFailStep_frame]
    exact ⟨rfl, rfl, rfl, rfl, rfl, rfl, rfl⟩
  case waits =>
    have hd : defers .transportFail s = true := (defers_transportFail hl).trans hdisp
    have hturn : AgentTurn s s := ⟨hl, .inr (.inr ⟨.transportFail, rest, he, hd, rfl⟩)⟩
    exact ⟨step_env_of_agentTurn hturn hstep, step_link_of_agentTurn hturn hstep⟩
  case rebind => rw [step_rebind hw he, rebindStep, if_pos hl]
  case rebindBound => rw [step_rebind hw he, rebindStep, if_neg (by simp [hl])]

end Sys2Proof.Machine
end

section
/-! The sample words: each is the encoding of the instruction it stands for, its checksum included, so the round trip decodes it
(spec/95_test_vectors.md S1 to S5). -/

namespace Sys2Proof.Machine

/-- A word that encodes a well-formed instruction decodes to it. -/
theorem decode_of_encodes {i : Instr} {c : Code} (h : Encodes i c) : decode c = .ok i := by
  obtain ⟨hwf, rfl⟩ := h
  exact decodeEncodeRoundTrip i hwf

/-- Settles O4: the instruction of each sample word is well formed and encodes to that word, so `decode_of_encodes` applies. -/
theorem sampleWordsDecode : Obligations.SampleWordsDecode := by
  unfold Obligations.SampleWordsDecode
  and_intros
  all_goals exact decode_of_encodes ⟨rfl, rfl⟩

end Sys2Proof.Machine
end
